-- ==== Sys2Proof/Word.lean ====
section
/-! DEFINITION. The byte, and the one way an entry of a fixed table is replaced. -/

namespace Sys2Proof

/-- Eight bits, as frames and registers carry them. -/
abbrev Byte := BitVec 8

/-- The table `v` with entry `i` replaced by `x`. -/
def vput {α : Type} {n : Nat} (v : Vector α n) (i : Fin n) (x : α) : Vector α n :=
  v.set i.val x i.isLt

/-- The table `v` with entry `i` changed by `f`. -/
def vmod {α : Type} {n : Nat} (v : Vector α n) (i : Fin n) (f : α → α) : Vector α n :=
  vput v i (f (v.get i))

@[simp] theorem get_vput_self {α : Type} {n : Nat} (v : Vector α n) (i : Fin n) (x : α) :
    (vput v i x).get i = x := by
  simp [vput, Vector.get_eq_getElem]

theorem get_vput_ne {α : Type} {n : Nat} (v : Vector α n) {i j : Fin n} (h : j ≠ i) (x : α) :
    (vput v i x).get j = v.get j := by
  have h' : i.val ≠ j.val := fun e => h (Fin.ext e.symm)
  simp [vput, Vector.get_eq_getElem, Vector.getElem_set_ne _ _ h']

@[simp] theorem get_vmod_self {α : Type} {n : Nat} (v : Vector α n) (i : Fin n) (f : α → α) :
    (vmod v i f).get i = f (v.get i) := by
  simp [vmod]

theorem get_vmod_ne {α : Type} {n : Nat} (v : Vector α n) {i j : Fin n} (h : j ≠ i) (f : α → α) :
    (vmod v i f).get j = v.get j := by
  simp [vmod, get_vput_ne v h]

theorem get_vmod {α : Type} {n : Nat} (v : Vector α n) (i j : Fin n) (f : α → α) :
    (vmod v i f).get j = if j = i then f (v.get j) else v.get j := by
  by_cases h : j = i
  · subst h; simp
  · simp [h, get_vmod_ne v h]

end Sys2Proof
end

