-- ==== Sys2Proof/Syntax.lean ====
section
/-! DEFINITION. The commands of the part: one constructor of `Instr` for each row of spec/opcode_table.json. -/

namespace Sys2Proof

/-- A tenant link, 0–3; link n is the link of tenant n (R170). -/
abbrev Link := Fin 4
/-- A tenant, 0–3. -/
abbrev Tenant := Fin 4
/-- A sector, 0–7. -/
abbrev Sector := Fin 8
/-- A record index of the Session Table, 0–511 (R41). -/
abbrev RecordIndex := Fin 512
/-- A request tag, 0–255 (R134). -/
abbrev Tag := BitVec 8
/-- The eight bytes of one slot (R116). -/
abbrev Slot := Vector Byte 8
/-- A 7-bit device address of the two-wire port (R150). -/
abbrev BusAddress := BitVec 7

/-- The commands, in the order of the opcode table. The two-wire rows that name a register carry the device address
of the transaction; those that read also carry whether the controller acknowledges the byte and so reads on. -/
inductive Instr where
  /-- Release of the reset input after a low pulse of this length, with these levels of ADR1 and ADR0 (R166). -/
  | fullReset (lowMicroseconds : Nat) (adr1 adr0 : Bool)
  /-- The reset input is driven low (R166). -/
  | resetAssert
  /-- 25,000 periods of the reference clock have passed (R174). -/
  | timeBaseTick
  /-- The lock input of the link rises (R140). -/
  | lockRise (link : Link)
  /-- The lock input of the link falls (R140). -/
  | lockFall (link : Link)
  /-- A slot arrives on the link; a frame whose last slot it is, is acted on (R121). -/
  | frameReceipt (link : Link) (slot : Slot)
  /-- A good one-slot JOIN is received on the link, with this tag byte and class-or-cause byte (R141). -/
  | join (link : Link) (tag : Tag) (cls : Byte)
  /-- The Admission Engine carries out the ASK the arbiter hands over (R20). -/
  | ask
  /-- The Admission Engine carries out the TAKEN the arbiter hands over (R46). -/
  | taken
  /-- The Admission Engine carries out the MISSED the arbiter hands over (R47). -/
  | missed
  /-- The Admission Engine carries out the END the arbiter hands over (R49). -/
  | endSession
  /-- The Admission Engine carries out the YIELDED the arbiter hands over (R87). -/
  | yielded
  /-- The Admission Engine carries out the DROP the arbiter hands over (R68). -/
  | drop
  /-- The Admission Engine carries out the LOOK the arbiter hands over (R39). -/
  | look
  /-- The Admission Engine carries out the LEAVE the arbiter hands over (R143). -/
  | leave
  /-- The offer deadline of the record expires (R48). -/
  | offerExpiry (record : RecordIndex)
  /-- The hold deadline of the record expires (R51). -/
  | holdExpiry (record : RecordIndex)
  /-- The reclaim deadline of the record expires (R88). -/
  | reclaimExpiry (record : RecordIndex)
  /-- The wait deadline of the tenant's entry with this tag expires (R63). -/
  | waitExpiry (tenant : Tenant) (tag : Tag)
  /-- The escalation deadline of the tenant's entry with this tag expires (R64). -/
  | escalation (tenant : Tenant) (tag : Tag)
  /-- The window of the sector's Load Meter ends (R103). -/
  | windowEnd (sector : Sector)
  /-- The transmission of the frame at the head of the link's store ends (R136). -/
  | transmissionEnd (link : Link)
  /-- A write transaction to this device address begins, and its first byte is this register address (R151). -/
  | registerPointerWrite (device : BusAddress) (address : Byte)
  /-- The next byte of the write transaction in progress (R151). -/
  | registerWrite (value : Byte)
  /-- RUN is written with bit 0 set and CLEAR-POOL clear (R152, R153). -/
  | transitionToActive (device : BusAddress)
  /-- RUN is written with bit 0 clear and CLEAR-POOL clear (R152, R154). -/
  | transitionToStandby (device : BusAddress)
  /-- RUN is written with CLEAR-POOL set and this RUN bit (R152, R155). -/
  | clearPool (device : BusAddress) (runBit : Bool)
  /-- TENANT-ENABLE is written (R144). -/
  | tenantEnable (device : BusAddress) (value : Byte)
  /-- A byte of EVENT-SUMMARY is read: 03h, or 04h when `second` (R168). -/
  | eventSummaryRead (device : BusAddress) (second more : Bool)
  /-- A byte of EVENT-MASK is written: 05h, or 06h when `second` (R169). -/
  | eventMaskWrite (device : BusAddress) (second : Bool) (value : Byte)
  /-- The low byte of COUNTER-DATA is read (R171). -/
  | counterDataLowRead (device : BusAddress) (more : Bool)
  /-- The reason byte of the fault record is read (R173). -/
  | faultRecordReasonRead (device : BusAddress) (more : Bool)
  /-- WINDOW-SELECT-READ is written (R156). -/
  | windowSelectRead (device : BusAddress) (value : Byte)
  /-- WINDOW-SELECT-WRITE is written (R156). -/
  | windowSelectWrite (device : BusAddress) (value : Byte)
  /-- WINDOW-DATA is written (R157). -/
  | windowDataWrite (device : BusAddress) (value : Byte)
  /-- WINDOW-DATA is read (R158). -/
  | windowDataRead (device : BusAddress) (more : Bool)
  /-- WINDOW-STATUS is read (R159). -/
  | windowStatusRead (device : BusAddress) (more : Bool)
  /-- A byte is read: the first of a new read transaction to `start`, or the next of the one in progress (R151). -/
  | registerRead (start : Option BusAddress) (more : Bool)
  deriving DecidableEq, Repr

end Sys2Proof
end

