-- ==== Sys2Proof/Config.lean ====
section
/-! DEFINITION. The sizes the manual fixes for the part (00_scope.md, "Numbers", and the rules named below).
The manual leaves no result value of a command open, so no opaque constant stands here. -/

namespace Sys2Proof.Config

/-- Places of an outbound store (R136). -/
def storePlaces : Nat := 128
/-- Free places a link's store must have for its lanes to be eligible (R131). -/
def freePlacesToServe : Nat := 2
/-- Most entries of the Wait List (R61). -/
def waitEntries : Nat := 256
/-- Most claims of the Claim Table (R79). -/
def claimSlots : Nat := 16
/-- Most victims of one claim (R79). -/
def victimsPerClaim : Nat := 8
/-- Most channel units the effective capacities of the sectors sum to (R12). -/
def capacitySum : Nat := 384
/-- Unit positions of one sector (R1). -/
def unitPositions : Nat := 64
/-- Slots of the Intake Buffer, and so the most the four allotments sum to (R126, R163). -/
def intakeSlots : Nat := 192
/-- Largest value of a counter (R170). -/
def counterMax : Nat := 65535
/-- Largest window count C (R102). -/
def windowCountMax : Nat := 4095
/-- Largest rate sample S (R104). -/
def sampleMax : Nat := 65535
/-- Largest smoothed rate A (R105, R108). -/
def smoothedMax : Nat := 1048560
/-- Largest load ratio L (R106). -/
def ratioMax : Nat := 4095
/-- Shortest window, in 10 ms units (R101). -/
def windowMin : Nat := 5
/-- The count at which the consecutive-priority count stops (R132). -/
def priorityCountMax : Nat := 32
/-- Largest value of the 40-bit Time Base (R174). -/
def timeBaseMax : Nat := 2 ^ 40 - 1
/-- Shortest low pulse of the reset input, in microseconds (R166). -/
def resetPulseMin : Nat := 10

end Sys2Proof.Config
end

