-- ==== Sys2Proof/Machine/State.lean ====
section
/-! DEFINITION. The state of the part, as the chapters that own each block give it, and its value after full reset. -/

namespace Sys2Proof.Machine

/-- The priority classes, highest first (00_scope.md, "Terms"). -/
inductive Cls where
  | emergency | responder | standard | bulk
  deriving DecidableEq, Repr

/-- The class's number, 0–3. -/
def Cls.index : Cls → Fin 4
  | .emergency => 0
  | .responder => 1
  | .standard => 2
  | .bulk => 3

/-- The class's number as a byte of a frame. -/
def Cls.byte (c : Cls) : Byte := BitVec.ofNat 8 c.index.val

/-- The number of a unit position in its sector, 0–63 (R1). -/
abbrev UnitNo := Fin 64

/-- The name of a session: a record index and a generation (R41). -/
structure Handle where
  index : RecordIndex
  generation : Fin 16
  deriving DecidableEq, Repr

/-- The name of a waiting request, its tenant and tag (R61); a claim is named by its claimant's (R79). -/
structure RequestName where
  tenant : Tenant
  tag : Tag
  deriving DecidableEq, Repr

/-! ### The Channel Pool -/

/-- The state of a unit position, with the session or claim it belongs to (R1). -/
inductive Position where
  | free
  | held (session : Handle)
  | earmarked (claim : RequestName)
  | retired
  deriving DecidableEq, Repr

/-- The sector settings (R11). -/
structure Settings where
  capacity : Nat
  emergencyReserve : Nat
  responderReserve : Nat
  target : Nat
  window : Nat
  weight : Nat
  adaptive : Bool
  deriving DecidableEq, Repr

/-- One sector's section of the Channel Pool (R1, R9, R11). -/
structure PoolSector where
  effective : Settings
  pending : Settings
  positions : Vector Position 64
  holdings : Vector Nat 4
  deriving DecidableEq, Repr

/-! ### Load Meters -/

/-- STOPPED, or COUNTING with the window start (R100). -/
inductive MeterState where
  | stopped
  | counting (windowStart : Nat)
  deriving DecidableEq, Repr

/-- A Load Meter: window length in force, C, A, L and the fractions of classes 0–3 (R100). -/
structure Meter where
  state : MeterState
  length : Nat
  count : Nat
  smoothed : Nat
  ratio : Nat
  fractions : Vector Nat 4
  deriving DecidableEq, Repr

/-! ### Session Table -/

/-- The state of a session with the fields present in it: the offer deadline, the hold deadline where one is set, or the
reclaim deadline and the claim reference (R40). -/
inductive SessionState where
  | offered (deadline : Nat)
  | active (holdDeadline : Option Nat)
  | reclaiming (deadline : Nat) (claim : Option RequestName)
  deriving DecidableEq, Repr

/-- The fields of a session record in use (R40). -/
structure Session where
  tenant : Tenant
  cls : Cls
  sector : Sector
  units : List UnitNo
  state : SessionState
  admitted : Nat
  retryAllowance : Nat
  missedCount : Nat
  deriving DecidableEq, Repr

/-- A record of the Session Table: its generation, kept always, and its session when it is in use (R40, R41). -/
structure Record where
  generation : Fin 16
  session : Option Session
  deriving DecidableEq, Repr

/-! ### Wait List and Claim Table -/

/-- QUEUED or CLAIMING (R62). -/
inductive EntryState where
  | queued | claiming
  deriving DecidableEq, Repr

/-- A wait entry (R60). -/
structure WaitEntry where
  tenant : Tenant
  tag : Tag
  cls : Cls
  sector : Sector
  units : Nat
  arrival : Nat
  waitDeadline : Option Nat
  escalationDeadline : Option Nat
  escalated : Bool
  claimPending : Bool
  state : EntryState
  deriving DecidableEq, Repr

/-- The name of the entry (R61). -/
def WaitEntry.name (e : WaitEntry) : RequestName := ⟨e.tenant, e.tag⟩

/-- A claim of the Claim Table (R79). -/
structure Claim where
  claimant : RequestName
  cls : Cls
  sector : Sector
  need : Nat
  earmarked : List UnitNo
  victims : List Handle
  deriving DecidableEq, Repr

/-! ### Links -/

/-- The bytes of a received frame, as many as its slots hold (R116, R121). -/
abbrev RxFrame := List Byte

/-- The outcomes of a REPLY (R120). -/
inductive ReplyOutcome where
  | granted | queued | accepted
  | refusedBusy | refusedClosed | refusedInvalid | refusedNotReady | refusedFull
  | timedOut | displaced | withdrawn | cancelled
  | tagBusy | unknown | wrongState
  deriving DecidableEq, Repr

/-- The causes of a LAPSE (R54). -/
inductive LapseCause where
  | offerExpired | holdLimit | forcedReclaim
  deriving DecidableEq, Repr

/-- The figures of a sector a FRACTION and a LOOK reply carry: free count, L and the fractions (R39, R110). -/
structure Figures where
  free : Nat
  ratio : Nat
  fractions : Vector Nat 4
  deriving DecidableEq, Repr

/-- A frame of the part in an outbound store, less its credit-return code, which is chosen when its transmission
begins (R119, R120, R129). -/
inductive OutFrame where
  /-- One-slot REPLY. -/
  | reply (tag : Tag) (cls : Byte) (outcome : ReplyOutcome)
  /-- Two-slot REPLY to TAKEN, MISSED, END or YIELDED, with the record index and generation named in the frame. -/
  | replyHandle (tag : Tag) (cls : Byte) (outcome : ReplyOutcome) (index : BitVec 16) (generation : Byte)
  /-- REPLY GRANTED. -/
  | replyGranted (tag : Tag) (cls : Byte) (handle : Handle) (sector : Sector) (units : List UnitNo)
  /-- REPLY ACCEPTED to a LOOK. -/
  | replyLook (tag : Tag) (cls : Byte) (sector : Sector) (capacity : Nat) (figures : Figures)
  | vacate (handle : Handle)
  | lapse (cause : LapseCause) (handle : Handle)
  | fraction (sector : Sector) (figures : Figures)
  | credit
  | cleared
  deriving DecidableEq, Repr

/-- A frame in transmission: its credit-return code and its bytes (R129, R136). -/
structure Transmission where
  code : Fin 8
  bytes : List Byte
  deriving DecidableEq, Repr

/-- The states of a link (R139). -/
inductive LinkState where
  | absent | present | attached | halted
  deriving DecidableEq, Repr

/-- What a Link Interface keeps, with the two lanes of its link in the Intake Buffer (R121, R126, R127, R134, R136, R139). -/
structure LinkRec where
  state : LinkState
  lock : Bool
  enable : Bool
  priorityLane : List RxFrame
  ordinaryLane : List RxFrame
  allotment : Nat
  balance : Nat
  owed : Nat
  tags : Vector Bool 256
  outbound : List OutFrame
  sending : Option Transmission
  partialFrame : RxFrame
  deriving DecidableEq, Repr

/-- The Intake Arbiter (R132). -/
structure Arbiter where
  lastServed : Link
  priorityCount : Nat
  deriving DecidableEq, Repr

/-! ### Policy tables -/

/-- An entry of the Class Policy Table (R162). -/
structure ClassPolicy where
  onset : Nat
  floor : Nat
  waitLimit : Nat
  retryAllowance : Nat
  holdLimit : Nat
  queueAllowed : Bool
  deriving DecidableEq, Repr

/-- An entry of the Tenant Table (R163). -/
structure TenantPolicy where
  allotment : Nat
  cap : Nat
  deriving DecidableEq, Repr

/-- The entry of the Global Table (R164). -/
structure GlobalPolicy where
  offerLimit : Nat
  reclaimLimit : Nat
  escalationDelay : Nat
  ordinaryShare : Nat
  deriving DecidableEq, Repr

/-- The committed Class Policy, Tenant, Beam Map and Global tables; a beam entry of none is CLOSED (R10, R160). -/
structure Policy where
  classes : Vector ClassPolicy 4
  tenants : Vector TenantPolicy 4
  beams : Vector (Option Sector) 32
  globals : GlobalPolicy
  deriving DecidableEq, Repr

/-! ### Supervisor Port -/

/-- ACTIVE or STANDBY (R152). -/
inductive RunState where
  | standby | active
  deriving DecidableEq, Repr

/-- The direction of a transaction that names the part (R150). -/
inductive BusDirection where
  | read | write
  deriving DecidableEq, Repr

/-- The mode of the entry window (R156). -/
inductive WindowMode where
  | read | write
  deriving DecidableEq, Repr

/-- A selection of the entry window: table number and entry index (R156). -/
structure Selection where
  table : Fin 8
  entry : Fin 32
  deriving DecidableEq, Repr

/-- The entry window (R156), with the captured byte of a two-byte live field (R165). -/
structure EntryWindow where
  mode : WindowMode
  readSelect : Selection
  writeSelect : Selection
  pointer : Nat
  staging : List Byte
  ignored : Bool
  capture : Byte
  deriving DecidableEq, Repr

/-- The Supervisor Port (R150, R151, R156, R171). `dataOut` and `acknowledged` are the model's own view of the data line:
the byte the part last sent, and whether it acknowledged the last address or byte put to it. -/
structure Port where
  adr1 : Bool
  adr0 : Bool
  transaction : Option BusDirection
  pointer : Byte
  counterSelect : Byte
  latch : Byte
  window : EntryWindow
  dataOut : Byte
  acknowledged : Bool
  deriving DecidableEq, Repr

/-! ### Events, counters, fault record -/

/-- The reasons of the fault record (R172). -/
inductive FaultReason where
  | check | kind | overrun | notAttached
  deriving DecidableEq, Repr

/-- The fault a link offers: tenant, kind byte as received, reason (R172). -/
structure LinkFault where
  tenant : Tenant
  kind : Byte
  reason : FaultReason
  deriving DecidableEq, Repr

/-- The fault record: the fault it holds when its valid mark is set, and the overflow mark (R172). -/
structure FaultRecord where
  held : Option LinkFault
  overflow : Bool
  deriving DecidableEq, Repr

/-- What the event being carried out has still to do: release sequences of stalled links in the order they stalled (R137),
sectors in which a position became FREE or settings were applied and whose service run is due (R7, R13), and claim slots freed
and not yet offered (R67). The model's own field; empty between events. -/
structure EventWork where
  stalled : List Link
  serve : List Sector
  freedSlots : Nat
  deriving DecidableEq, Repr

/-- The state of the part, and `pending`, the queue of commands waiting to be taken. -/
structure State where
  pending : List Instr
  work : EventWork
  resetLow : Bool
  timeBase : Nat
  run : RunState
  sectors : Vector PoolSector 8
  meters : Vector Meter 8
  sessions : Vector Record 512
  waitList : List WaitEntry
  claims : List Claim
  links : Vector LinkRec 4
  arbiter : Arbiter
  policy : Policy
  port : Port
  marks : BitVec 9
  mask : BitVec 9
  counters : Vector Nat 48
  fault : FaultRecord
  deriving DecidableEq, Repr

/-- Why the machine stops. -/
inductive Fault where
  /-- Raised by FULL_RESET after a low pulse shorter than 10 µs, whose effect "is not defined" (R166). Safe: the model
  says nothing of what the part does then. -/
  | resetPulseTooShort
  deriving DecidableEq, Repr

/-- Why a command has no meaning. -/
inductive Refusal where
  /-- Raised by exec's arm of a command that has no meaning yet. Safe. -/
  | notModelled (mnemonic : String)
  deriving DecidableEq, Repr

/-! ### Values after full reset -/

/-- The default sector settings (table in 01, section 1.6; R161). -/
def Settings.default : Settings := ⟨0, 0, 0, 1000, 50, 4, false⟩

/-- R17: both copies hold the defaults, every position is RETIRED, every holding 0. -/
def PoolSector.reset : PoolSector :=
  ⟨Settings.default, Settings.default, Vector.replicate 64 .retired, Vector.replicate 4 0⟩

/-- R114. -/
def Meter.reset : Meter := ⟨.stopped, 50, 0, 0, 0, Vector.replicate 4 256⟩

/-- R138, R139; lock low and so ABSENT: DESIGN CHOICE, log entry 12. -/
def LinkRec.reset : LinkRec :=
  ⟨.absent, false, true, [], [], 0, 0, 0, Vector.replicate 256 false, [], none, []⟩

/-- The defaults of R162, R163 and R164, and the default mapping of R10 (beam b to sector b div 4). -/
def Policy.reset : Policy where
  classes := #v[⟨4095, 256, 0, 4, 0, true⟩, ⟨1024, 128, 20000, 2, 0, true⟩,
    ⟨256, 32, 8000, 0, 0, true⟩, ⟨192, 0, 0, 0, 120, false⟩]
  tenants := Vector.replicate 4 ⟨48, 64⟩
  beams := #v[some 0, some 0, some 0, some 0, some 1, some 1, some 1, some 1,
    some 2, some 2, some 2, some 2, some 3, some 3, some 3, some 3,
    some 4, some 4, some 4, some 4, some 5, some 5, some 5, some 5,
    some 6, some 6, some 6, some 6, some 7, some 7, some 7, some 7]
  globals := ⟨4000, 1500, 3000, 8⟩

/-- R156; the captured byte 00h is a DESIGN CHOICE, log entry 13. -/
def EntryWindow.reset : EntryWindow := ⟨.read, ⟨0, 0⟩, ⟨0, 0⟩, 0, [], false, 0⟩

/-- R150, R151, R171; ADR1 and ADR0 low is log entry 12, `dataOut` and `acknowledged` log entry 13. -/
def Port.reset : Port := ⟨false, false, none, 0, 0, 0, EntryWindow.reset, 0, false⟩

/-- The part right after a full reset (R166), with its lock inputs, ADR1 and ADR0 low (log entry 12). -/
def State.reset : State where
  pending := []
  work := ⟨[], [], 0⟩
  resetLow := false
  timeBase := 0
  run := .standby
  sectors := Vector.replicate 8 PoolSector.reset
  meters := Vector.replicate 8 Meter.reset
  sessions := Vector.replicate 512 ⟨0, none⟩
  waitList := []
  claims := []
  links := Vector.replicate 4 LinkRec.reset
  arbiter := ⟨3, 0⟩
  policy := Policy.reset
  port := Port.reset
  marks := 0
  mask := 0x0FF
  counters := Vector.replicate 48 0
  fault := ⟨none, false⟩

end Sys2Proof.Machine
end

