-- ==== Sys2Proof/Machine/Flags.lean ====
section
/-! DEFINITION. Event marks, mask and attention output, the counters and the fault record (chapter 10). -/

namespace Sys2Proof.Machine

/-- The event kinds (R167). -/
inductive Event where
  | link | stall | overrun | forced | full | escalate | claimFull | capacity | meter
  deriving DecidableEq, Repr

/-- The bit of EVENT-SUMMARY the event has: bits 0–7 of the first byte, METER bit 0 of the second (R151, R167). -/
def Event.bit : Event → Nat
  | .link => 0
  | .stall => 1
  | .overrun => 2
  | .forced => 3
  | .full => 4
  | .escalate => 5
  | .claimFull => 6
  | .capacity => 7
  | .meter => 8

/-- The mark or mask word with the bit of `e` set. -/
def Event.flag (e : Event) : BitVec 9 := 1#9 <<< e.bit

/-- Raising an event sets its mark (R167). -/
def raise (e : Event) (s : State) : State := { s with marks := s.marks ||| e.flag }

/-- The attention output is driven low while a kind has both its mark and its mask bit set, and is released while the
reset input is low (R169). -/
def attentionLow (s : State) : Bool := !s.resetLow && (s.marks &&& s.mask) != 0

/-- The kinds of class counter, in the order of COUNTER-SELECT (R151). -/
inductive ClassCounter where
  | asked | granted | timedOut | displaced | victim | refused
  deriving DecidableEq, Repr

def ClassCounter.kind : ClassCounter → Fin 6
  | .asked => 0
  | .granted => 1
  | .timedOut => 2
  | .displaced => 3
  | .victim => 4
  | .refused => 5

/-- The kinds of tenant counter, in the order of COUNTER-SELECT (R151). -/
inductive TenantCounter where
  | checkFail | poisoned | overrun | protocol | forced | stall
  deriving DecidableEq, Repr

def TenantCounter.kind : TenantCounter → Fin 6
  | .checkFail => 0
  | .poisoned => 1
  | .overrun => 2
  | .protocol => 3
  | .forced => 4
  | .stall => 5

/-- The number of a class counter: 4 × kind + class (R151). -/
def classCounterNo (k : ClassCounter) (c : Cls) : Fin 48 := ⟨4 * k.kind.val + c.index.val, by omega⟩

/-- The number of a tenant counter: 24 + 4 × kind + tenant (R151). -/
def tenantCounterNo (k : TenantCounter) (t : Tenant) : Fin 48 := ⟨24 + 4 * k.kind.val + t.val, by omega⟩

/-- A counter rises by one and stays at 65535 (R170). -/
def bumpCounter (n : Fin 48) (s : State) : State :=
  { s with counters := vmod s.counters n (fun x => min Config.counterMax (x + 1)) }

/-- The class counter rises (R170). -/
def countClass (k : ClassCounter) (c : Cls) (s : State) : State := bumpCounter (classCounterNo k c) s

/-- The tenant counter rises (R170). -/
def countTenant (k : TenantCounter) (t : Tenant) (s : State) : State := bumpCounter (tenantCounterNo k t) s

/-- The fault record takes the offer if it is free, and otherwise sets its overflow mark (R172). -/
def FaultRecord.offer (r : FaultRecord) (f : LinkFault) : FaultRecord :=
  match r.held with
  | none => ⟨some f, false⟩
  | some g => ⟨some g, true⟩

/-- A link fault is offered to the fault record (R172). -/
def offerFault (t : Tenant) (kind : Byte) (reason : FaultReason) (s : State) : State :=
  { s with fault := s.fault.offer ⟨t, kind, reason⟩ }

/-- The reason byte (R173). -/
def FaultReason.code : FaultReason → Byte
  | .check => 1
  | .kind => 2
  | .overrun => 3
  | .notAttached => 4

end Sys2Proof.Machine
end

