-- ==== Sys2Proof/Machine/Operands.lean ====
section
/-! DEFINITION. The forms of frames: the check, the fields of a received frame, and the bytes of a frame the part
sends (chapter 07, sections 7.1 to 7.3, and R129). -/

namespace Sys2Proof.Machine

/-! ### The check (R117) -/

/-- One bit of the cyclic redundancy check, polynomial 1021h (R117). -/
def crcShift (c : BitVec 16) : BitVec 16 :=
  if c.msb then (c <<< 1) ^^^ 0x1021#16 else c <<< 1

/-- One byte of the check, most significant bit first (R117). -/
def crcByte (c : BitVec 16) (b : Byte) : BitVec 16 :=
  (List.range 8).foldl (fun c _ => crcShift c) (c ^^^ (b.zeroExtend 16 <<< 8))

/-- The check over bytes, from the initial value FFFFh, with no final inversion (R117). -/
def crc (bytes : List Byte) : BitVec 16 := bytes.foldl crcByte 0xFFFF#16

/-- The two bytes of a value, the more significant first (R116). -/
def bytes16 (x : BitVec 16) : List Byte := [x.extractLsb' 8 8, x.extractLsb' 0 8]

/-- The value of two bytes, the more significant first (R116). -/
def word16 (hi lo : Byte) : BitVec 16 := hi ++ lo

/-- The two bytes of a count that a frame or table carries as a two-byte value. -/
def nat16 (n : Nat) : List Byte := bytes16 (BitVec.ofNat 16 n)

/-- A one-byte value of a frame or table. -/
def nat8 (n : Nat) : Byte := BitVec.ofNat 8 n

/-! ### Received frames (R116 to R121) -/

/-- Byte `i` of the frame. -/
def RxFrame.byte (f : RxFrame) (i : Nat) : Byte := f.getD i 0

/-- The slot count s (R121). -/
def RxFrame.slots (f : RxFrame) : Nat := f.length / 8

def RxFrame.kindByte (f : RxFrame) : Byte := f.byte 0
def RxFrame.lengthByte (f : RxFrame) : Byte := f.byte 1
def RxFrame.tag (f : RxFrame) : Tag := f.byte 2
def RxFrame.cls (f : RxFrame) : Byte := f.byte 3

/-- How many slots the length byte makes the Link Interface collect: 0, and 5 or above, are taken as 1 (R121). -/
def slotsToCollect (lengthByte : Byte) : Nat :=
  if 1 ≤ lengthByte.toNat ∧ lengthByte.toNat ≤ 4 then lengthByte.toNat else 1

/-- The results of the check of a received frame (R117). -/
inductive CheckResult where
  | good | poisoned | failed
  deriving DecidableEq, Repr

/-- The check stored in the last two bytes against the check computed over the others (R117). -/
def RxFrame.check (f : RxFrame) : CheckResult :=
  let n := f.length
  let stored := word16 (f.byte (n - 2)) (f.byte (n - 1))
  let computed := crc (f.take (n - 2))
  if stored = computed then .good
  else if stored = ~~~computed then .poisoned
  else .failed

/-- The kinds a tenant may send (R118). -/
inductive FrameKind where
  | join | ask | taken | missed | endSession | yielded | drop | look | leave
  deriving DecidableEq, Repr

/-- The kind codes of tenant frames (R120). -/
def FrameKind.ofByte (b : Byte) : Option FrameKind :=
  match b.toNat with
  | 0x01 => some .join
  | 0x02 => some .ask
  | 0x03 => some .taken
  | 0x04 => some .missed
  | 0x05 => some .endSession
  | 0x06 => some .yielded
  | 0x07 => some .drop
  | 0x08 => some .look
  | 0x09 => some .leave
  | _ => none

def RxFrame.kind (f : RxFrame) : Option FrameKind := FrameKind.ofByte f.kindByte

/-- The only length the part accepts for the kind (R118). -/
def FrameKind.slots : FrameKind → Nat
  | .ask | .taken | .missed | .endSession | .yielded => 2
  | .join | .drop | .look | .leave => 1

/-- The lanes of a link in the Intake Buffer (R126). -/
inductive Lane where
  | priority | ordinary
  deriving DecidableEq, Repr

/-- The lane the frame's kind selects; an ASK's class byte of 0 or 1 selects the priority lane (R118). -/
def RxFrame.lane (f : RxFrame) : Lane :=
  match f.kind with
  | some .endSession | some .yielded => .priority
  | some .ask => if f.cls.toNat ≤ 1 then .priority else .ordinary
  | _ => .ordinary

/-- The class a class byte names; a value above 3 names none (R23). -/
def Cls.ofByte (b : Byte) : Option Cls :=
  match b.toNat with
  | 0 => some .emergency
  | 1 => some .responder
  | 2 => some .standard
  | 3 => some .bulk
  | _ => none

/-- The units requested: 0 is taken as 1 and 9–15 as 8 (R19). -/
def clampUnits (field : Nat) : Nat := max 1 (min 8 field)

/-- The beam field of an ASK (R120). -/
def RxFrame.beam (f : RxFrame) : Byte := f.byte 5

/-- The units requested of an ASK: the low four bits of byte 6, clamped (R19, R120). -/
def RxFrame.units (f : RxFrame) : Nat := clampUnits ((f.byte 6).extractLsb' 0 4).toNat

/-- The sector field of a LOOK (R120). -/
def RxFrame.sectorField (f : RxFrame) : Byte := f.byte 5

/-- The record index named by a TAKEN, MISSED, END or YIELDED (R120). -/
def RxFrame.recordIndex (f : RxFrame) : BitVec 16 := word16 (f.byte 8) (f.byte 9)

/-- The generation byte named by a TAKEN, MISSED, END or YIELDED (R120). -/
def RxFrame.generation (f : RxFrame) : Byte := f.byte 10

/-! ### Frames the part sends (R119, R120) -/

/-- The outcome codes (R120). -/
def ReplyOutcome.code : ReplyOutcome → Byte
  | .granted => 0x01
  | .queued => 0x02
  | .accepted => 0x03
  | .refusedBusy => 0x10
  | .refusedClosed => 0x11
  | .refusedInvalid => 0x12
  | .refusedNotReady => 0x13
  | .refusedFull => 0x14
  | .timedOut => 0x20
  | .displaced => 0x21
  | .withdrawn => 0x22
  | .cancelled => 0x23
  | .tagBusy => 0x30
  | .unknown => 0x31
  | .wrongState => 0x32

/-- The cause codes of LAPSE (R120). -/
def LapseCause.code : LapseCause → Byte
  | .offerExpired => 0x02
  | .holdLimit => 0x03
  | .forcedReclaim => 0x04

/-- The cause code PREEMPTED of VACATE (R120). -/
def preemptedCode : Byte := 0x01

/-- A handle as bytes 8 to 10 (R120). -/
def Handle.bytes (h : Handle) : List Byte := nat16 h.index.val ++ [nat8 h.generation.val]

/-- The unit list as eight bytes, unused ones zero (R120). -/
def unitBytes (us : List UnitNo) : List Byte :=
  (us.map (fun u : UnitNo => nat8 u.val) ++ List.replicate 8 0).take 8

/-- The fractions of classes 0 to 3, two bytes each (R120). -/
def fractionBytes (v : Vector Nat 4) : List Byte := v.toList.flatMap nat16

/-- The frame's length in slots (R119). -/
def OutFrame.slots : OutFrame → Nat
  | .reply _ _ _ => 1
  | .replyHandle _ _ _ _ _ => 2
  | .replyGranted _ _ _ _ _ => 3
  | .replyLook _ _ _ _ _ => 3
  | .vacate _ => 2
  | .lapse _ _ => 2
  | .fraction _ _ => 3
  | .credit => 1
  | .cleared => 1

/-- The kind code (R120). -/
def OutFrame.kindCode : OutFrame → Byte
  | .reply _ _ _ | .replyHandle _ _ _ _ _ | .replyGranted _ _ _ _ _ | .replyLook _ _ _ _ _ => 0x81
  | .vacate _ => 0x82
  | .lapse _ _ => 0x83
  | .fraction _ _ => 0x84
  | .credit => 0x85
  | .cleared => 0x86

/-- The tag byte (R119). -/
def OutFrame.tagByte : OutFrame → Byte
  | .reply t _ _ | .replyHandle t _ _ _ _ | .replyGranted t _ _ _ _ | .replyLook t _ _ _ _ => t
  | .vacate _ | .lapse _ _ | .fraction _ _ | .credit | .cleared => 0

/-- The class-or-cause byte (R119). -/
def OutFrame.classByte : OutFrame → Byte
  | .reply _ c _ | .replyHandle _ c _ _ _ | .replyGranted _ c _ _ _ | .replyLook _ c _ _ _ => c
  | .vacate _ => preemptedCode
  | .lapse c _ => c.code
  | .fraction _ _ | .credit | .cleared => 0

/-- Bytes 5 up to the check, by the layouts of R120. -/
def OutFrame.payload : OutFrame → List Byte
  | .reply _ _ o => [o.code]
  | .replyHandle _ _ o i g => [o.code, 0, 0] ++ bytes16 i ++ [g, 0, 0, 0]
  | .replyGranted _ _ h s us =>
      [ReplyOutcome.granted.code, 0, 0] ++ h.bytes ++ [nat8 s.val, nat8 us.length] ++ unitBytes us ++ [0]
  | .replyLook _ _ s c g =>
      [ReplyOutcome.accepted.code, nat8 s.val, 0] ++ [nat8 g.free, nat8 c] ++ nat16 g.ratio
        ++ fractionBytes g.fractions ++ [0, 0]
  | .vacate h | .lapse _ h => [0, 0, 0] ++ h.bytes ++ [0, 0, 0]
  | .fraction s g =>
      [nat8 s.val, 0, 0] ++ [nat8 g.free, 0] ++ nat16 g.ratio ++ fractionBytes g.fractions ++ [0, 0]
  | .credit | .cleared => [0]

/-- The bytes of the frame sent with this credit-return code, its check in the last two (R116, R117, R120). -/
def OutFrame.bytes (f : OutFrame) (code : Fin 8) : List Byte :=
  let body := [f.kindCode, nat8 f.slots, f.tagByte, f.classByte, nat8 code.val] ++ f.payload
  body ++ bytes16 (crc body)

/-! ### Credit-return codes (R129) -/

/-- The value a credit-return code returns (R129). -/
def returnValue (code : Fin 8) : Nat := (#v[0, 1, 2, 3, 4, 8, 16, 32] : Vector Nat 8).get code

/-- The code whose value is the largest that does not exceed what is owed (R129). -/
def returnCode (owed : Nat) : Fin 8 :=
  if 32 ≤ owed then 7
  else if 16 ≤ owed then 6
  else if 8 ≤ owed then 5
  else if 4 ≤ owed then 4
  else if 3 ≤ owed then 3
  else if 2 ≤ owed then 2
  else if 1 ≤ owed then 1
  else 0

end Sys2Proof.Machine
end

