-- ==== Sys2Proof/Machine/Ops.lean ====
section
/-! DEFINITION. Access to the parts of the state, and the operations on links that every event shares: link state, Tag
Table, queuing of frames, stall, credits and the beginning of transmissions (chapters 07 and 08). -/

namespace Sys2Proof.Machine

/-! ### Access -/

def State.link (s : State) (l : Link) : LinkRec := s.links.get l
def State.sector (s : State) (i : Sector) : PoolSector := s.sectors.get i
def State.meter (s : State) (i : Sector) : Meter := s.meters.get i
def State.record (s : State) (i : RecordIndex) : Record := s.sessions.get i
/-- The session of a record in use. -/
def State.session? (s : State) (i : RecordIndex) : Option Session := (s.record i).session
def State.classPolicy (s : State) (c : Cls) : ClassPolicy := s.policy.classes.get c.index
def State.tenantPolicy (s : State) (t : Tenant) : TenantPolicy := s.policy.tenants.get t

def State.modLink (s : State) (l : Link) (f : LinkRec → LinkRec) : State := { s with links := vmod s.links l f }
def State.modSector (s : State) (i : Sector) (f : PoolSector → PoolSector) : State :=
  { s with sectors := vmod s.sectors i f }
def State.modMeter (s : State) (i : Sector) (f : Meter → Meter) : State := { s with meters := vmod s.meters i f }
def State.modRecord (s : State) (i : RecordIndex) (f : Record → Record) : State :=
  { s with sessions := vmod s.sessions i f }

/-- The entry with this name, if it is in the Wait List (R61). -/
def State.entry? (s : State) (k : RequestName) : Option WaitEntry := s.waitList.find? (fun e => e.name = k)
def State.modEntry (s : State) (k : RequestName) (f : WaitEntry → WaitEntry) : State :=
  { s with waitList := s.waitList.map (fun e => if e.name = k then f e else e) }
/-- The entry leaves the list; the order of the others stays (R61). -/
def State.removeEntry (s : State) (k : RequestName) : State :=
  { s with waitList := s.waitList.filter (fun e => e.name ≠ k) }

/-- The claim with this claimant, if it is in the Claim Table (R79). -/
def State.claim? (s : State) (k : RequestName) : Option Claim := s.claims.find? (fun c => c.claimant = k)
def State.modClaim (s : State) (k : RequestName) (f : Claim → Claim) : State :=
  { s with claims := s.claims.map (fun c => if c.claimant = k then f c else c) }

/-! ### Link state -/

/-- A link's occupancy: the slots its frames occupy in its two lanes (R126). -/
def LinkRec.occupancy (r : LinkRec) : Nat :=
  ((r.priorityLane ++ r.ordinaryLane).map RxFrame.slots).sum

/-- A change of a link's state raises LINK; an event that leaves the state raises nothing (R139). -/
def changeLinkState (l : Link) (x : LinkState) (s : State) : State :=
  if (s.link l).state = x then s else raise .link (s.modLink l (fun r => { r with state := x }))

/-- The store is emptied, and a frame in transmission is cut off (R136). -/
def emptyStore (l : Link) (s : State) : State := s.modLink l (fun r => { r with outbound := [], sending := none })

def tagIndex (t : Tag) : Fin 256 := ⟨t.toNat, t.isLt⟩

/-- The tag is marked outstanding or free in the tenant's Tag Table (R134). -/
def setTag (k : RequestName) (outstanding : Bool) (s : State) : State :=
  s.modLink k.tenant (fun r => { r with tags := vput r.tags (tagIndex k.tag) outstanding })

/-! ### Queuing and stall -/

/-- A frame that finds the store of an ATTACHED link full stalls the link: HALTED, its store emptied, STALL counted and
raised; its release sequence waits for the end of the event (R137). -/
def stall (l : Link) (s : State) : State :=
  let s := emptyStore l (changeLinkState l .halted s)
  let s := raise .stall (countTenant .stall l s)
  { s with work := { s.work with stalled := s.work.stalled ++ [l] } }

/-- A frame is queued at the tail of an ATTACHED link's store; on a link not ATTACHED it is not queued and stalls
nothing (R136, R137). -/
def queueFrame (l : Link) (f : OutFrame) (s : State) : State :=
  if (s.link l).state = .attached then
    if (s.link l).outbound.length < Config.storePlaces then
      s.modLink l (fun r => { r with outbound := r.outbound ++ [f] })
    else stall l s
  else s

/-- The frame is a FRACTION of the sector. -/
def OutFrame.isFractionOf (sec : Sector) : OutFrame → Bool
  | .fraction x _ => x = sec
  | _ => false

/-- How many frames at the head of the store are in transmission: their contents no longer change (R136). -/
def LinkRec.begun (r : LinkRec) : Nat := if r.sending.isSome then 1 else 0

/-- A FRACTION notice is queued, or replaces in place an unsent FRACTION of the same sector (R110). -/
def queueFraction (l : Link) (sec : Sector) (g : Figures) (s : State) : State :=
  let r := s.link l
  if r.state = .attached ∧ (r.outbound.drop r.begun).any (OutFrame.isFractionOf sec) then
    s.modLink l (fun r => { r with outbound := r.outbound.take r.begun ++
      (r.outbound.drop r.begun).map (fun x => if x.isFractionOf sec then .fraction sec g else x) })
  else queueFrame l (.fraction sec g) s

/-! ### Credits -/

/-- A CREDIT is queued on an ATTACHED link that owes credits and whose store holds no frame (R130). -/
def creditIfIdle (l : Link) (s : State) : State :=
  let r := s.link l
  if r.state = .attached ∧ 0 < r.owed ∧ r.outbound = [] then
    s.modLink l (fun r => { r with outbound := [.credit] })
  else s

/-- Credits come to be owed on an ATTACHED link (R128, R130). -/
def owe (l : Link) (n : Nat) (s : State) : State :=
  creditIfIdle l (s.modLink l (fun r => { r with owed := r.owed + n }))

/-- The credits of a discarded frame of an ATTACHED link move from balance to owed, when the balance covers them
(R122, R123). -/
def settleDiscard (l : Link) (n : Nat) (s : State) : State :=
  if (s.link l).state = .attached ∧ n ≤ (s.link l).balance then
    owe l n (s.modLink l (fun r => { r with balance := r.balance - n }))
  else s

/-- The link is idle with a frame to send: its lock is high and it is not HALTED (R136). -/
def LinkRec.mayBegin (r : LinkRec) : Bool :=
  r.sending.isNone && !r.outbound.isEmpty && r.lock && r.state != .halted

/-- The transmission of the frame at the head of the store begins: its code is chosen from what is owed, owed falls and the
balance rises by the value returned (R129, R136). -/
def LinkRec.begin (r : LinkRec) : LinkRec :=
  match r.outbound with
  | [] => r
  | f :: _ =>
    let code := returnCode r.owed
    { r with
      sending := some ⟨code, f.bytes code⟩
      owed := r.owed - returnValue code
      balance := r.balance + returnValue code }

/-- Transmissions begin on every idle link that has a frame to send; those of different links have no order (R136). -/
def beginTransmissions (s : State) : State :=
  { s with links := Vector.ofFn (fun l => if (s.link l).mayBegin then (s.link l).begin else s.link l) }

/-! ### Replies -/

/-- A waiting request is answered by a one-slot REPLY carrying the entry's tag and class, and its tag is freed (R119,
R134). -/
def answerEntry (e : WaitEntry) (o : ReplyOutcome) (s : State) : State :=
  setTag e.name false (queueFrame e.tenant (.reply e.tag e.cls.byte o) s)

/-- A waiting request is refused: answered, and the REFUSED counter of its class rises (R37). -/
def refuseEntry (o : ReplyOutcome) (e : WaitEntry) (s : State) : State :=
  countClass .refused e.cls (answerEntry e o s)

end Sys2Proof.Machine
end

