-- ==== Sys2Proof/Machine/Pool.lean ====
section
/-! DEFINITION. The Channel Pool's requests on unit positions, and the records a grant makes (chapter 01, R40 to R44). -/

namespace Sys2Proof.Machine

/-- The positions in a given state, in ascending order. -/
def PoolSector.positionsWhere (p : PoolSector) (f : Position → Bool) : List UnitNo :=
  (List.finRange 64).filter (fun u => f (p.positions.get u))

def Position.isFree : Position → Bool
  | .free => true
  | _ => false
def Position.isHeld : Position → Bool
  | .held _ => true
  | _ => false
def Position.isEarmarked : Position → Bool
  | .earmarked _ => true
  | _ => false
def Position.isRetired : Position → Bool
  | .retired => true
  | _ => false

/-- The FREE positions, lowest first (R3). -/
def PoolSector.freeList (p : PoolSector) : List UnitNo := p.positionsWhere Position.isFree
/-- The four counts of a sector (R2). -/
def PoolSector.freeCount (p : PoolSector) : Nat := p.freeList.length
def PoolSector.heldCount (p : PoolSector) : Nat := (p.positionsWhere Position.isHeld).length
def PoolSector.earmarkedCount (p : PoolSector) : Nat := (p.positionsWhere Position.isEarmarked).length
def PoolSector.retiredCount (p : PoolSector) : Nat := (p.positionsWhere Position.isRetired).length

/-- The sector is over capacity: a HELD or EARMARKED position lies at or above the effective capacity (R15). -/
def PoolSector.overCapacity (p : PoolSector) : Bool :=
  (List.finRange 64).any (fun u =>
    p.effective.capacity ≤ u.val && ((p.positions.get u).isHeld || (p.positions.get u).isEarmarked))

/-- The usable free units of a class; subtraction of counts stops at 0 (R8). -/
def PoolSector.usable (p : PoolSector) : Cls → Nat
  | .emergency => p.freeCount
  | .responder => p.freeCount - p.effective.emergencyReserve
  | .standard | .bulk => p.freeCount - p.effective.emergencyReserve - p.effective.responderReserve

/-- The class counts toward its tenant's holding: STANDARD and BULK (R9). -/
def Cls.capped : Cls → Bool
  | .emergency | .responder => false
  | .standard | .bulk => true

/-- The positions of the list take the state given (R3, R4, R6). -/
def PoolSector.assign (p : PoolSector) (us : List UnitNo) (x : Position) : PoolSector :=
  { p with positions := Vector.ofFn (fun u => if u ∈ us then x else p.positions.get u) }

/-- The positions of the list become FREE below the effective capacity and RETIRED at or above it (R7). -/
def PoolSector.release (p : PoolSector) (us : List UnitNo) : PoolSector :=
  { p with positions := Vector.ofFn (fun u =>
      if u ∈ us then (if u.val < p.effective.capacity then .free else .retired) else p.positions.get u) }

def assignUnits (sec : Sector) (us : List UnitNo) (x : Position) (s : State) : State :=
  s.modSector sec (fun p => p.assign us x)

/-- A service run of the sector is due later in this event (R7, R13, R146). -/
def dueService (sec : Sector) (s : State) : State :=
  { s with work := { s.work with serve := s.work.serve ++ [sec] } }

/-- Positions are released; a service run is due if at least one became FREE (R7). -/
def releaseUnits (sec : Sector) (us : List UnitNo) (s : State) : State :=
  let free := us.any (fun u => u.val < (s.sector sec).effective.capacity)
  let s := s.modSector sec (fun p => p.release us)
  if free then dueService sec s else s

/-- The tenant's holding in the sector rises by `n` for a STANDARD or BULK session (R3, R9). -/
def raiseHolding (c : Cls) (t : Tenant) (sec : Sector) (n : Nat) (s : State) : State :=
  if c.capped then s.modSector sec (fun p => { p with holdings := vmod p.holdings t (· + n) }) else s

/-- The tenant's holding in the sector falls by `n` for a STANDARD or BULK session (R5, R7, R9). -/
def lowerHolding (c : Cls) (t : Tenant) (sec : Sector) (n : Nat) (s : State) : State :=
  if c.capped then s.modSector sec (fun p => { p with holdings := vmod p.holdings t (· - n) }) else s

/-! ### Making a session -/

/-- The lowest index not in use (R41). -/
def lowestFreeRecord (s : State) : Option RecordIndex :=
  (List.finRange 512).find? (fun i => (s.record i).session.isNone)

/-- The record as it is filled at creation (R42). -/
def newSession (t : Tenant) (c : Cls) (sec : Sector) (us : List UnitNo) (s : State) : Session where
  tenant := t
  cls := c
  sector := sec
  units := us
  state := .offered (s.timeBase + s.policy.globals.offerLimit)
  admitted := s.timeBase
  retryAllowance := (s.classPolicy c).retryAllowance
  missedCount := 0

/-- A request is granted the units `us`: the record is made, the positions become HELD by it, the holding rises for STANDARD
and BULK, GRANTED is counted and the REPLY is queued (R29, R42, R75, R91). A free record always exists (R43; log entry 20). -/
def grantUnits (k : RequestName) (clsByte : Byte) (c : Cls) (sec : Sector) (us : List UnitNo) (s : State) : State :=
  match lowestFreeRecord s with
  | none => s
  | some i =>
    let h : Handle := ⟨i, (s.record i).generation⟩
    let x := newSession k.tenant c sec us s
    let s := s.modRecord i (fun r => { r with session := some x })
    let s := assignUnits sec us (.held h) s
    let s := raiseHolding c k.tenant sec us.length s
    let s := countClass .granted c s
    queueFrame k.tenant (.replyGranted k.tag clsByte h sec us) s

/-- A request is granted the `n` lowest-numbered FREE positions of the sector (R3). -/
def grantFree (k : RequestName) (clsByte : Byte) (c : Cls) (sec : Sector) (n : Nat) (s : State) : State :=
  grantUnits k clsByte c sec ((s.sector sec).freeList.take n) s

/-- A waiting request is granted units: the session is made, the tag is freed and the entry leaves the list (R75, R91). -/
def grantEntry (e : WaitEntry) (us : List UnitNo) (s : State) : State :=
  (setTag e.name false (grantUnits e.name e.cls.byte e.cls e.sector us s)).removeEntry e.name

/-! ### Room test -/

/-- The request fits by units (R26). -/
def fitsUnits (c : Cls) (sec : Sector) (n : Nat) (s : State) : Bool := decide (n ≤ (s.sector sec).usable c)

/-- The request fits its tenant's cap, which EMERGENCY and RESPONDER are not tested against (R26). -/
def fitsCap (t : Tenant) (c : Cls) (sec : Sector) (n : Nat) (s : State) : Bool :=
  !c.capped || decide ((s.sector sec).holdings.get t + n ≤ (s.tenantPolicy t).cap)

/-- The room test (R26). -/
def roomTest (t : Tenant) (c : Cls) (sec : Sector) (n : Nat) (s : State) : Bool :=
  fitsUnits c sec n s && fitsCap t c sec n s

end Sys2Proof.Machine
end

