-- ==== Sys2Proof/Machine/Claims.lean ====
section
/-! DEFINITION. Claims: the attempt, making, transfer, completion and end, and the freeing of a session, whose units may
go to a claim (chapter 05, R5, R44, R53). -/

namespace Sys2Proof.Machine

/-! ### Earmarks -/

/-- Positions are set aside for the claim; its earmarked list stays ascending (R4, R5). -/
def earmark (k : RequestName) (sec : Sector) (us : List UnitNo) (s : State) : State :=
  (assignUnits sec us (.earmarked k) s).modClaim k
    (fun c => { c with earmarked := (c.earmarked ++ us).insertionSort (· ≤ ·) })

/-- The claim's need less what it has earmarked (R5). -/
def Claim.remaining (c : Claim) : Nat := c.need - c.earmarked.length

/-! ### Leaving the table -/

/-- The claim reference is removed from the victim, which stays RECLAIMING with its deadline running (R53). -/
def dropReference (k : RequestName) (h : Handle) (s : State) : State :=
  s.modRecord h.index (fun r => { r with session := r.session.map (fun x =>
    match x.state with
    | .reclaiming d (some c) => if c = k then { x with state := .reclaiming d none } else x
    | _ => x) })

/-- The claim leaves the table: its victims lose their reference and its slot is freed (R91, R93). -/
def dropClaim (c : Claim) (s : State) : State :=
  let s := c.victims.foldl (fun s h => dropReference c.claimant h s) s
  { s with
    claims := s.claims.filter (fun x => x.claimant ≠ c.claimant)
    work := { s.work with freedSlots := s.work.freedSlots + 1 } }

/-- The claim completes: the claimant's session is made on the earmarked positions, the claimant is answered GRANTED and
leaves the list, and the claim leaves the table (R6, R91). -/
def completeClaim (c : Claim) (s : State) : State :=
  let k := c.claimant
  let s := grantUnits k c.cls.byte c.cls c.sector c.earmarked s
  dropClaim c ((setTag k false s).removeEntry k)

/-- The claim completes if its earmarked list has reached its need (R91). -/
def completeIfFull (k : RequestName) (s : State) : State :=
  match s.claim? k with
  | none => s
  | some c => if c.need ≤ c.earmarked.length then completeClaim c s else s

/-- The claims of the removed entries named end in this order: every one leaves the table before any earmark is released, and
the service of the releases and the offers of the slots come later in the event (R15, R16, R70, R93, R145). -/
def endClaims (ks : List RequestName) (s : State) : State :=
  let cs := ks.filterMap s.claim?
  let s := cs.foldl (fun s c => dropClaim c s) s
  cs.foldl (fun s c => releaseUnits c.sector c.earmarked s) s

/-! ### Freeing a session -/

/-- A victim's units go to its claim up to the remaining need, and the rest are released; all are released when the claim is no
longer in the table (R5). -/
def transferUnits (k : RequestName) (x : Session) (s : State) : State :=
  match s.claim? k with
  | none => releaseUnits x.sector x.units s
  | some c =>
    releaseUnits x.sector (x.units.drop c.remaining) (earmark k x.sector (x.units.take c.remaining) s)

/-- The claim a session gives its units to: the claim reference of a RECLAIMING session (R40). -/
def Session.claim? (x : Session) : Option RequestName :=
  match x.state with
  | .reclaiming _ c => c
  | _ => none

/-- A record is freed: its units are released or transferred, the holding falls, the generation advances, and a claim whose
earmark reaches its need completes. The answer comes before and the service after (R44, R55, R87). -/
def freeSession (i : RecordIndex) (s : State) : State :=
  match s.session? i with
  | none => s
  | some x =>
    let h : Handle := ⟨i, (s.record i).generation⟩
    let s := match x.claim? with
      | none => releaseUnits x.sector x.units s
      | some k => transferUnits k x s
    let s := lowerHolding x.cls x.tenant x.sector x.units.length s
    let s := s.modRecord i (fun r => ⟨r.generation + 1, none⟩)
    match x.claim? with
    | none => s
    | some k => completeIfFull k (s.modClaim k (fun c => { c with victims := c.victims.filter (· ≠ h) }))

/-! ### The claim attempt -/

/-- The class may be taken by the claimant (R83). -/
def WaitEntry.mayTake (e : WaitEntry) (c : Cls) : Bool :=
  match e.cls, c with
  | .emergency, .bulk => true
  | .emergency, .standard => true
  | .emergency, .responder => e.escalated
  | .responder, .bulk => true
  | _, _ => false

/-- A session in OFFERED or ACTIVE (R83). -/
def Session.seizable (x : Session) : Bool :=
  match x.state with
  | .offered _ => true
  | .active _ => true
  | .reclaiming _ _ => false

/-- The candidates of the entry's attempt, by record index (R83). -/
def candidates (e : WaitEntry) (s : State) : List (RecordIndex × Session) :=
  (List.finRange 512).filterMap (fun i =>
    match s.session? i with
    | some x => if x.sector = e.sector ∧ e.mayTake x.cls ∧ x.seizable then some (i, x) else none
    | none => none)

/-- OFFERED before ACTIVE (R84). -/
def Session.stage (x : Session) : Nat :=
  match x.state with
  | .offered _ => 0
  | .active _ => 1
  | .reclaiming _ _ => 2

/-- Victim order: lowest class first, then OFFERED before ACTIVE, then latest admitted time, then higher record index
(R84). -/
def victimBefore (a b : RecordIndex × Session) : Bool :=
  if a.2.cls ≠ b.2.cls then decide (b.2.cls.index < a.2.cls.index)
  else if a.2.stage ≠ b.2.stage then decide (a.2.stage < b.2.stage)
  else if a.2.admitted ≠ b.2.admitted then decide (b.2.admitted < a.2.admitted)
  else decide (b.1 ≤ a.1)

/-- Candidates are taken from the front until their units reach the shortfall or `room` of them have been taken (R84). -/
def takeVictims : Nat → Nat → List (RecordIndex × Session) → List (RecordIndex × Session)
  | 0, _, _ => []
  | _ + 1, _, [] => []
  | room + 1, need, v :: vs =>
    if need = 0 then [] else v :: takeVictims room (need - v.2.units.length) vs

/-- The units of the sessions together. -/
def unitsOf (vs : List (RecordIndex × Session)) : Nat := (vs.map (fun v => v.2.units.length)).sum

/-- What the claimant's need leaves for victims to cover: n less the usable free units (R82). -/
def shortfall (e : WaitEntry) (s : State) : Nat := e.units - (s.sector e.sector).usable e.cls

/-- The victims of the entry's attempt (R84). -/
def chooseVictims (e : WaitEntry) (s : State) : List (RecordIndex × Session) :=
  takeVictims Config.victimsPerClaim (shortfall e s) ((candidates e s).insertionSort (fun a b => victimBefore a b))

/-- A session becomes a victim of the claim: RECLAIMING, with a reclaim deadline and the claim reference; VICTIM is counted
for its class (R52, R85). -/
def seize (k : RequestName) (v : RecordIndex × Session) (s : State) : State :=
  let deadline := s.timeBase + s.policy.globals.reclaimLimit
  let s := s.modRecord v.1 (fun r => { r with session := r.session.map (fun x =>
    { x with state := .reclaiming deadline (some k) }) })
  countClass .victim v.2.cls s

/-- A claim is made for the entry with these victims: it enters the table as the youngest, the usable free units are earmarked,
the claimant becomes CLAIMING, the victims become RECLAIMING, and their tenants are sent VACATE in victim order (R85). -/
def makeClaim (e : WaitEntry) (vs : List (RecordIndex × Session)) (s : State) : State :=
  let k := e.name
  let free := (s.sector e.sector).freeList.take (min ((s.sector e.sector).usable e.cls) e.units)
  let handle := fun (v : RecordIndex × Session) => (⟨v.1, (s.record v.1).generation⟩ : Handle)
  let s := { s with claims := s.claims ++ [⟨k, e.cls, e.sector, e.units, [], vs.map handle⟩] }
  let s := earmark k e.sector free s
  let s := s.modEntry k (fun e => { e with state := .claiming })
  let s := vs.foldl (fun s v => seize k v s) s
  vs.foldl (fun s v => queueFrame v.2.tenant (.vacate (handle v)) s) s

/-- A claim attempt for the entry: a full table sets the claim-pending mark and raises CLAIMFULL; otherwise the mark is cleared,
and a claim is made if victims cover the shortfall (R66, R81 to R85). -/
def claimAttempt (e : WaitEntry) (s : State) : State :=
  if Config.claimSlots ≤ s.claims.length then
    raise .claimFull (s.modEntry e.name (fun e => { e with claimPending := true }))
  else
    let s := s.modEntry e.name (fun e => { e with claimPending := false })
    let vs := chooseVictims e s
    if shortfall e s ≤ unitsOf vs then makeClaim e vs s else s

end Sys2Proof.Machine
end

