-- ==== Sys2Proof/Machine/Service.lean ====
section
/-! DEFINITION. Service of newly free units, the offering of freed claim slots, the release sequence, and the frame of one
event (R67, R72 to R76, R90, R137, R145, R146). -/

namespace Sys2Proof.Machine

/-! ### Claim service -/

/-- One claim's turn in claim service: it earmarks as many FREE positions as its class allows, up to its remaining need, and
completes at once if that fills it (R90). -/
def serveClaim (k : RequestName) (s : State) : State :=
  match s.claim? k with
  | none => s
  | some c =>
    let us := (s.sector c.sector).freeList.take (min c.remaining ((s.sector c.sector).usable c.cls))
    completeIfFull k (earmark k c.sector us s)

/-- Claim service: the sector's claims, oldest first (R90). -/
def claimService (sec : Sector) (s : State) : State :=
  ((s.claims.filter (fun c => c.sector = sec)).map Claim.claimant).foldl (fun s k => serveClaim k s) s

/-! ### Wait service -/

/-- The classes, highest first. -/
def allClasses : List Cls := [.emergency, .responder, .standard, .bulk]

/-- The QUEUED entries of the sector in the order wait service scans them: by class, then oldest first (R73). -/
def scanOrder (sec : Sector) (s : State) : List WaitEntry :=
  allClasses.flatMap (fun c =>
    s.waitList.filter (fun e => e.sector = sec ∧ e.cls = c ∧ e.state = .queued))

/-- The scan of wait service: an entry that passes its room test is granted, one that fails by cap only is passed over, and one
that fails by units stops the scan (R73, R74). -/
def scan : List WaitEntry → State → State
  | [], s => s
  | e :: es, s =>
    if fitsUnits e.cls e.sector e.units s then
      if fitsCap e.tenant e.cls e.sector e.units s then
        scan es (grantEntry e ((s.sector e.sector).freeList.take e.units) s)
      else scan es s
    else s

def waitService (sec : Sector) (s : State) : State := scan (scanOrder sec s) s

/-- A service run: claim service, then wait service (R72). -/
def serviceRun (sec : Sector) (s : State) : State := waitService sec (claimService sec s)

/-! ### Claim slot offers -/

/-- The entries with the claim-pending mark in the order of offering: EMERGENCY, then RESPONDER, each oldest first (R67). -/
def offerOrder (s : State) : List WaitEntry :=
  [Cls.emergency, Cls.responder].flatMap (fun c => s.waitList.filter (fun e => e.cls = c ∧ e.claimPending))

/-- One freed slot is offered to these entries in turn until one attempt makes a claim (R67). -/
def offerTo : List WaitEntry → State → State
  | [], s => s
  | e :: es, s =>
    let s := s.modEntry e.name (fun e => { e with claimPending := false })
    if fitsUnits e.cls e.sector e.units s then offerTo es s
    else
      let s := claimAttempt { e with claimPending := false } s
      if (s.claim? e.name).isSome then s else offerTo es s

/-- The freed slots are offered one after another (R67). -/
def offerSlots : Nat → State → State
  | 0, s => s
  | n + 1, s => offerSlots n (offerTo (offerOrder s) s)

/-- The service runs that are due, one for each sector, and after all of them the offers of the claim slots freed (R7, R72, R92,
R146). Runs of different sectors have no order among them (log entry 18). -/
def settle (s : State) : State :=
  let s := (List.finRange 8).foldl (fun t sec => if sec ∈ s.work.serve then serviceRun sec t else t) s
  let n := s.work.freedSlots
  offerSlots n { s with work := { s.work with serve := [], freedSlots := 0 } }

/-! ### The release sequence -/

/-- What step 7 leaves in the store: nothing, or after LEAVE a frame in transmission and the ACCEPTED of the LEAVE (R143, R145). -/
def LinkRec.keptStore (r : LinkRec) (byLeave : Bool) : List OutFrame :=
  if byLeave then
    (r.outbound.dropLast).take r.begun ++ r.outbound.getLast?.toList
  else []

/-- The sessions of the tenant whose state satisfies `p`, in ascending record index (R145). -/
def sessionsOf (t : Tenant) (p : Session → Bool) (s : State) : List RecordIndex :=
  (List.finRange 512).filter (fun i =>
    match s.session? i with
    | some x => decide (x.tenant = t) && p x
    | none => false)

def Session.isReclaiming (x : Session) : Bool :=
  match x.state with
  | .reclaiming _ _ => true
  | _ => false

/-- The release sequence of the tenant of link `l`, begun after the link has left ATTACHED (R145, R146). -/
def releaseSequence (l : Link) (byLeave : Bool) (s : State) : State :=
  -- step 1
  let s := s.modLink l (fun r => { r with priorityLane := [], ordinaryLane := [] })
  -- step 2
  let claiming := (s.waitList.filter (fun e => e.tenant = l ∧ e.state = .claiming)).map WaitEntry.name
  let s := { s with waitList := s.waitList.filter (fun e => e.tenant ≠ l) }
  let s := endClaims claiming s
  -- steps 3 and 4
  let s := (sessionsOf l Session.isReclaiming s).foldl (fun s i => freeSession i s) s
  let s := (sessionsOf l (fun _ => true) s).foldl (fun s i => freeSession i s) s
  -- step 5
  let s := s.modLink l (fun r =>
    { r with allotment := 0, balance := 0, owed := 0, tags := Vector.replicate 256 false })
  -- step 6
  let s := settle s
  -- step 7
  s.modLink l (fun r =>
    { r with outbound := r.keptStore byLeave, sending := if byLeave then r.sending else none })

/-! ### The frame of an event -/

/-- The release sequences of the links that stalled in the event, in the order they stalled; a link stalled by one of them waits
behind those already waiting (R137, R146). Each link can stall once in an event, so four are enough. The sequence of a link that a
VACATE stalled frees its tenant's victims (R86, R89), so a claim made by the event's own ASK may complete here, after the ASK's own work,
in which none does (R32). DEDUCED: R32 speaks of that work, and R86, R89, R91 and R137 of the sequences after it (log entry 29). -/
def drainStalls : Nat → State → State
  | 0, s => s
  | n + 1, s =>
    match s.work.stalled with
    | [] => s
    | l :: ls => drainStalls n (releaseSequence l false { s with work := { s.work with stalled := ls } })

/-- Nothing left to do in the event. -/
def EventWork.none : EventWork := ⟨[], [], 0⟩

/-- The end of an event: the release sequences of stalled links, and then the transmissions on idle links (R136, R137). -/
def finishEvent (s : State) : State :=
  beginTransmissions { drainStalls 4 s with work := EventWork.none }

/-- One event with this work, from its beginning to its end. -/
def runEvent (body : State → State) (s : State) : State :=
  finishEvent (body { s with work := EventWork.none })

/-- The outcomes of a command. -/
abbrev Result := Host.Outcome State Fault Refusal

/-- An event of the part is taken when its condition holds and the reset input is not low; otherwise nothing happens
(R166; log entries 2 and 10). -/
def eventWhen (due : Bool) (body : State → State) (s : State) : Result :=
  .next (if !s.resetLow && due then runEvent body s else s)

end Sys2Proof.Machine
end

