-- ==== Sys2Proof/Machine/Engine.lean ====
section
/-! DEFINITION. The Intake Arbiter's choice and the frame of each Admission Engine event (R18, R125, R128, R131, R132). -/

namespace Sys2Proof.Machine

/-- The frames of a lane. -/
def LinkRec.lane (r : LinkRec) : Lane → List RxFrame
  | .priority => r.priorityLane
  | .ordinary => r.ordinaryLane

/-- The lane is eligible: it holds a frame, its link is ATTACHED, and its link's store has at least 2 free places (R131). -/
def LinkRec.eligible (r : LinkRec) (x : Lane) : Bool :=
  !(r.lane x).isEmpty && r.state = .attached
    && r.outbound.length + Config.freePlacesToServe ≤ Config.storePlaces

/-- The links in round-robin order after the link last served, which comes last (R132). -/
def serviceOrder (last : Link) : List Link := [last + 1, last + 2, last + 3, last]

/-- The first link in order whose lane of this kind is eligible (R132). -/
def firstEligible (x : Lane) (s : State) : Option Link :=
  (serviceOrder s.arbiter.lastServed).find? (fun l => (s.link l).eligible x)

/-- The link and lane the arbiter chooses: an ordinary lane when the ordinary share is due, else a priority lane, else an ordinary
one (R132). -/
def chosenLane (s : State) : Option (Link × Lane) :=
  let ordinary := (firstEligible .ordinary s).map (fun l => (l, Lane.ordinary))
  let priority := (firstEligible .priority s).map (fun l => (l, Lane.priority))
  if s.policy.globals.ordinaryShare ≤ s.arbiter.priorityCount then ordinary.or priority else priority.or ordinary

/-- The frame the arbiter hands to the engine: the head of the lane chosen (R132, R133). -/
def arbiterChoice (s : State) : Option (Link × Lane × RxFrame) :=
  (chosenLane s).bind (fun c => ((s.link c.1).lane c.2).head?.map (fun f => (c.1, c.2, f)))

/-- The arbiter's fields after the choice (R132). -/
def Arbiter.served (a : Arbiter) (l : Link) : Lane → Arbiter
  | .priority => ⟨l, min Config.priorityCountMax (a.priorityCount + 1)⟩
  | .ordinary => ⟨l, 0⟩

/-- The frame's slots leave the Intake Buffer and come to be owed, if its tenant is still ATTACHED (R128; log entry 21). -/
def finishFrame (l : Link) (x : Lane) (f : RxFrame) (s : State) : State :=
  if (s.link l).state = .attached then
    owe l f.slots (s.modLink l (fun r =>
      match x with
      | .priority => { r with priorityLane := r.priorityLane.tail }
      | .ordinary => { r with ordinaryLane := r.ordinaryLane.tail }))
  else s

/-- A one-slot REPLY with the frame's tag byte and the value received in the class-or-cause byte (R119). -/
def replyTo (l : Link) (f : RxFrame) (o : ReplyOutcome) (s : State) : State :=
  queueFrame l (.reply f.tag f.cls o) s

/-- A frame is carried out as its kind, unless its length byte does not suit the kind, which is answered REFUSED-INVALID (R125). -/
def carryOut (k : FrameKind) (body : Link → RxFrame → State → State) (l : Link) (f : RxFrame) (s : State) : State :=
  if f.lengthByte.toNat = k.slots then body l f s else replyTo l f .refusedInvalid s

/-- The engine's event for frames of this kind: taken when the arbiter's choice is such a frame (R18, R128, R132; log entries 2
and 4). -/
def engineEvent (k : FrameKind) (body : Link → RxFrame → State → State) (s : State) : Result :=
  match arbiterChoice s with
  | none => .next s
  | some (l, x, f) =>
    eventWhen (f.kind = some k)
      (fun s => finishFrame l x f (carryOut k body l f { s with arbiter := s.arbiter.served l x })) s

end Sys2Proof.Machine
end

