-- ==== Sys2Proof/Machine/Ask.lean ====
section
/-! DEFINITION. ASK (chapter 02). -/

namespace Sys2Proof.Machine

/-- The REFUSED counter of the class a class byte names rises; a byte above 3 names none (R21, R23, R37). -/
def countRefused (clsByte : Byte) (s : State) : State :=
  match Cls.ofByte clsByte with
  | some c => countClass .refused c s
  | none => s

/-- The ASK is answered with a refusal, counted for its class (R36, R37). -/
def refuseAsk (l : Link) (f : RxFrame) (o : ReplyOutcome) (s : State) : State :=
  countRefused f.cls (replyTo l f o s)

/-- The sector of a beam: none for a beam mapped to CLOSED and for a beam of 32 or above (R10). -/
def beamSector (beam : Byte) (s : State) : Option Sector :=
  if h : beam.toNat < 32 then s.policy.beams.get ⟨beam.toNat, h⟩ else none

/-- The ASK is counted in the sector's meter and in ASKED (R24). -/
def countAsk (c : Cls) (sec : Sector) (s : State) : State :=
  countClass .asked c
    (s.modMeter sec (fun m => { m with count := min Config.windowCountMax (m.count + 1) }))

/-- The entry is blocked only by its own tenant cap: it fails by cap and not by units (R26, R27). -/
def blockedOnlyByCap (s : State) (e : WaitEntry) : Bool :=
  fitsUnits e.cls e.sector e.units s && !fitsCap e.tenant e.cls e.sector e.units s

/-- The order test (R27). A RESPONDER does not test for waiting EMERGENCY entries, as R27 says; R78, which names R27 for the test, says in
passing that it fails behind an EMERGENCY entry blocked by units. DEDUCED: R27, which defines the test, holds (log entry 28). -/
def orderTest (c : Cls) (sec : Sector) (s : State) : Bool :=
  let waiting := s.waitList.filter (fun e => e.sector = sec)
  match c with
  | .emergency => true
  | .responder => !waiting.any (fun e => e.cls = .responder) && !s.claims.any (fun k => k.sector = sec)
  | .standard => !waiting.any (fun e => e.cls ≠ .bulk && !blockedOnlyByCap s e)
  | .bulk => !waiting.any (fun e => !blockedOnlyByCap s e)

/-- The request may wait: EMERGENCY always, the others by the queue-allowed field, and BULK not when it fails by cap (R30). -/
def mayWait (t : Tenant) (c : Cls) (sec : Sector) (n : Nat) (s : State) : Bool :=
  match c with
  | .emergency => true
  | .responder | .standard => (s.classPolicy c).queueAllowed
  | .bulk => (s.classPolicy c).queueAllowed && fitsCap t c sec n s

/-- The wait entry made from an ASK (R31, R60). -/
def newEntry (l : Link) (f : RxFrame) (c : Cls) (sec : Sector) (s : State) : WaitEntry where
  tenant := l
  tag := f.tag
  cls := c
  sector := sec
  units := f.units
  arrival := s.timeBase
  waitDeadline :=
    if (s.classPolicy c).waitLimit = 0 then none else some (s.timeBase + (s.classPolicy c).waitLimit)
  escalationDeadline := if c = .emergency then some (s.timeBase + s.policy.globals.escalationDelay) else none
  escalated := false
  claimPending := false
  state := .queued

/-- The ASK becomes the youngest wait entry and is answered QUEUED; an EMERGENCY or RESPONDER entry short of units gets a claim
attempt (R31, R32; log entry 29). -/
def enterWait (l : Link) (f : RxFrame) (c : Cls) (sec : Sector) (s : State) : State :=
  let e := newEntry l f c sec s
  let s := setTag e.name true { s with waitList := s.waitList ++ [e] }
  let s := replyTo l f .queued s
  if !c.capped && !fitsUnits c sec f.units s then claimAttempt e s else s

/-- The entry an EMERGENCY or RESPONDER ASK displaces: the youngest QUEUED entry of the lowest class present below its own (R34);
none is sought for STANDARD and BULK (R33). -/
def displaceable (c : Cls) (s : State) : Option WaitEntry :=
  if c.capped then none
  else [Cls.bulk, Cls.standard, Cls.responder].findSome? (fun k =>
    if c.index < k.index then (s.waitList.filter (fun e => e.cls = k ∧ e.state = .queued)).getLast? else none)

/-- The entry is displaced: answered DISPLACED, counted for its class, and FULL raised (R34). -/
def displace (e : WaitEntry) (s : State) : State :=
  raise .full (countClass .displaced e.cls (answerEntry e .displaced (s.removeEntry e.name)))

/-- An ASK that may wait, with the Wait List full or not (R31, R33, R34). -/
def waitOrRefuse (l : Link) (f : RxFrame) (c : Cls) (sec : Sector) (s : State) : State :=
  if s.waitList.length < Config.waitEntries then enterWait l f c sec s
  else match displaceable c s with
    | some e => enterWait l f c sec (displace e s)
    | none => raise .full (refuseAsk l f .refusedFull s)

/-- Steps 6 to 11 of an ASK that has a sector and has been counted (R20, R25 to R34). -/
def decideAsk (l : Link) (f : RxFrame) (c : Cls) (sec : Sector) (s : State) : State :=
  let n := f.units
  let cap := (s.sector sec).effective.capacity
  if cap = 0 then refuseAsk l f .refusedClosed s
  else if cap < n then refuseAsk l f .refusedInvalid s
  else if roomTest l c sec n s && orderTest c sec s then grantFree ⟨l, f.tag⟩ f.cls c sec n s
  else if !mayWait l c sec n s then refuseAsk l f .refusedBusy s
  else waitOrRefuse l f c sec s

/-- An ASK is carried out by the steps of R20, the first that decides it ending it (R20 to R25). -/
def carryAsk (l : Link) (f : RxFrame) (s : State) : State :=
  if s.run = .standby then refuseAsk l f .refusedNotReady s
  else if (s.link l).tags.get (tagIndex f.tag) then replyTo l f .tagBusy s
  else match Cls.ofByte f.cls with
    | none => replyTo l f .refusedInvalid s
    | some c =>
      match beamSector f.beam s with
      | none => refuseAsk l f .refusedClosed s
      | some sec => decideAsk l f c sec (countAsk c sec s)

/-- ASK (R20). -/
def execAsk (s : State) : Result := engineEvent .ask carryAsk s

end Sys2Proof.Machine
end

