-- ==== Sys2Proof/Machine/Requests.lean ====
section
/-! DEFINITION. TAKEN, MISSED, END, YIELDED, DROP, LOOK and LEAVE (R39, R45 to R52, R68, R87, R143). -/

namespace Sys2Proof.Machine

/-! ### Frames that name a session -/

/-- The record the frame's handle matches: its index is 0–511, the record is in use, its generation is the one named, and its
tenant is the sender (R45). -/
def matchHandle (l : Link) (f : RxFrame) (s : State) : Option (RecordIndex × Session) :=
  if h : f.recordIndex.toNat < 512 then
    let i : RecordIndex := ⟨f.recordIndex.toNat, h⟩
    match s.session? i with
    | some x =>
      if (s.record i).generation.val = f.generation.toNat ∧ x.tenant = l then some (i, x) else none
    | none => none
  else none

/-- A REPLY carrying the frame's tag, the value received in its class-or-cause byte, and the handle it named (R45). -/
def replyHandle (l : Link) (f : RxFrame) (o : ReplyOutcome) (s : State) : State :=
  queueFrame l (.replyHandle f.tag f.cls o f.recordIndex f.generation) s

/-- A frame that names a session is carried out on the record it matches, or answered UNKNOWN (R45). -/
def onSession (body : RecordIndex → Session → State → State) (l : Link) (f : RxFrame) (s : State) : State :=
  match matchHandle l f s with
  | none => replyHandle l f .unknown s
  | some (i, x) => body i x s

/-- The session of the record takes this state (R40). -/
def setSessionState (i : RecordIndex) (x : SessionState) (s : State) : State :=
  s.modRecord i (fun r => { r with session := r.session.map (fun y => { y with state := x }) })

/-- The hold deadline set for a class now: none when its hold limit is 0 (R46, R50). -/
def holdDeadline (c : Cls) (s : State) : Option Nat :=
  if (s.classPolicy c).holdLimit = 0 then none else some (s.timeBase + (s.classPolicy c).holdLimit * 1000)

/-- TAKEN: OFFERED becomes ACTIVE, with a hold deadline if a hold limit applies (R46, R52). -/
def carryTaken (l : Link) (f : RxFrame) (s : State) : State :=
  onSession (fun i x s =>
    match x.state with
    | .offered _ => replyHandle l f .accepted (setSessionState i (.active (holdDeadline x.cls s)) s)
    | .active _ => replyHandle l f .wrongState s
    | .reclaiming _ _ => replyHandle l f .wrongState s) l f s

/-- MISSED below the allowance: the count rises by one and the offer deadline starts anew with the offer limit as it stands now (R47). R56
says that the new deadline is later than the one it replaces, which it is not after a commit that lowered the limit far enough. DESIGN
CHOICE: R47 is followed (log entry 30). -/
def missOffer (i : RecordIndex) (s : State) : State :=
  s.modRecord i (fun r => { r with session := r.session.map (fun x =>
    { x with missedCount := x.missedCount + 1, state := .offered (s.timeBase + s.policy.globals.offerLimit) }) })

/-- MISSED: an offer is restarted below the retry allowance and cancelled at it (R47, R52). -/
def carryMissed (l : Link) (f : RxFrame) (s : State) : State :=
  onSession (fun i x s =>
    match x.state with
    | .offered _ =>
      if x.missedCount < x.retryAllowance then replyHandle l f .accepted (missOffer i s)
      else settle (freeSession i (replyHandle l f .cancelled s))
    | .active _ => replyHandle l f .wrongState s
    | .reclaiming _ _ => replyHandle l f .wrongState s) l f s

/-- END: the record is freed, a RECLAIMING one as by YIELDED (R49, R52, R87). -/
def carryEnd (l : Link) (f : RxFrame) (s : State) : State :=
  onSession (fun i _ s => settle (freeSession i (replyHandle l f .accepted s))) l f s

/-- YIELDED: a RECLAIMING record is freed and its units go to its claim or the pool (R52, R87). -/
def carryYielded (l : Link) (f : RxFrame) (s : State) : State :=
  onSession (fun i x s =>
    match x.state with
    | .offered _ => replyHandle l f .wrongState s
    | .active _ => replyHandle l f .wrongState s
    | .reclaiming _ _ => settle (freeSession i (replyHandle l f .accepted s))) l f s

/-! ### DROP, LOOK, LEAVE -/

/-- An entry is removed with this answer, and its claim ends if it was CLAIMING (R63, R68). -/
def withdrawEntry (e : WaitEntry) (o : ReplyOutcome) (s : State) : State :=
  let s := (answerEntry e o s).removeEntry e.name
  settle (if e.state = .claiming then endClaims [e.name] s else s)

/-- DROP: the tenant's entry with the target tag is withdrawn, or the DROP is answered UNKNOWN (R68). -/
def carryDrop (l : Link) (f : RxFrame) (s : State) : State :=
  match s.entry? ⟨l, f.tag⟩ with
  | some e => withdrawEntry e .withdrawn s
  | none => replyTo l f .unknown s

/-- The figures of a sector as they stand (R39, R110). -/
def figures (sec : Sector) (s : State) : Figures :=
  ⟨(s.sector sec).freeCount, (s.meter sec).ratio, (s.meter sec).fractions⟩

/-- LOOK: a sector's figures, or REFUSED-INVALID for a sector above 7 (R39). -/
def carryLook (l : Link) (f : RxFrame) (s : State) : State :=
  if h : f.sectorField.toNat < 8 then
    let sec : Sector := ⟨f.sectorField.toNat, h⟩
    queueFrame l (.replyLook f.tag f.cls sec (s.sector sec).effective.capacity (figures sec s)) s
  else replyTo l f .refusedInvalid s

/-- LEAVE: ACCEPTED is queued, the link becomes PRESENT, and the release sequence is carried out (R143). -/
def carryLeave (l : Link) (f : RxFrame) (s : State) : State :=
  releaseSequence l true (changeLinkState l .present (replyTo l f .accepted s))

/-! ### The commands -/

/-- TAKEN (R46). -/
def execTaken (s : State) : Result := engineEvent .taken carryTaken s
/-- MISSED (R47). -/
def execMissed (s : State) : Result := engineEvent .missed carryMissed s
/-- END (R49). -/
def execEndSession (s : State) : Result := engineEvent .endSession carryEnd s
/-- YIELDED (R87). -/
def execYielded (s : State) : Result := engineEvent .yielded carryYielded s
/-- DROP (R68). -/
def execDrop (s : State) : Result := engineEvent .drop carryDrop s
/-- LOOK (R39). -/
def execLook (s : State) : Result := engineEvent .look carryLook s
/-- LEAVE (R143). -/
def execLeave (s : State) : Result := engineEvent .leave carryLeave s

end Sys2Proof.Machine
end

