-- ==== Sys2Proof/Machine/Expiry.lean ====
section
/-! DEFINITION. OFFER_EXPIRY, HOLD_EXPIRY, RECLAIM_EXPIRY, WAIT_EXPIRY and ESCALATION (R48, R51, R63, R64, R88). -/

namespace Sys2Proof.Machine

/-- The Time Base has reached the deadline (R174). -/
def reached (s : State) (deadline : Nat) : Bool := decide (deadline ≤ s.timeBase)

/-- The record has the session `x` and the condition on it holds. -/
def sessionDue (i : RecordIndex) (p : Session → Bool) (s : State) : Bool :=
  match s.session? i with
  | some x => p x
  | none => false

/-- The offer deadline of an OFFERED session is reached (R48). -/
def Session.offerDue (s : State) (x : Session) : Bool :=
  match x.state with
  | .offered d => reached s d
  | _ => false

/-- The hold deadline of an ACTIVE session is reached (R51). -/
def Session.holdDue (s : State) (x : Session) : Bool :=
  match x.state with
  | .active (some d) => reached s d
  | _ => false

/-- The reclaim deadline of a RECLAIMING session is reached (R88). -/
def Session.reclaimDue (s : State) (x : Session) : Bool :=
  match x.state with
  | .reclaiming d _ => reached s d
  | _ => false

/-- The session's record is freed with a LAPSE to its tenant, and the service follows (R44, R54). -/
def lapseSession (i : RecordIndex) (cause : LapseCause) (s : State) : State :=
  match s.session? i with
  | none => s
  | some x =>
    settle (freeSession i (queueFrame x.tenant (.lapse cause ⟨i, (s.record i).generation⟩) s))

/-- OFFER_EXPIRY (R48). -/
def execOfferExpiry (i : RecordIndex) (s : State) : Result :=
  eventWhen (sessionDue i (Session.offerDue s) s) (lapseSession i .offerExpired) s

/-- The class is shedding in the sector: L is greater than its onset (R111). -/
def shedding (c : Cls) (sec : Sector) (s : State) : Bool :=
  decide ((s.classPolicy c).onset < (s.meter sec).ratio)

/-- A hold expiry revokes a session whose class is shedding; otherwise the hold deadline is set anew, or removed when the hold
limit is 0 now (R51). -/
def holdExpires (i : RecordIndex) (s : State) : State :=
  match s.session? i with
  | none => s
  | some x =>
    if shedding x.cls x.sector s then lapseSession i .holdLimit s
    else setSessionState i (.active (holdDeadline x.cls s)) s

/-- HOLD_EXPIRY (R51). -/
def execHoldExpiry (i : RecordIndex) (s : State) : Result :=
  eventWhen (sessionDue i (Session.holdDue s) s) (holdExpires i) s

/-- A reclaim expiry frees the record with LAPSE FORCED-RECLAIM, and FORCED is counted for the tenant and raised (R88). -/
def reclaimExpires (i : RecordIndex) (s : State) : State :=
  match s.session? i with
  | none => s
  | some x => lapseSession i .forcedReclaim (raise .forced (countTenant .forced x.tenant s))

/-- RECLAIM_EXPIRY (R88). -/
def execReclaimExpiry (i : RecordIndex) (s : State) : Result :=
  eventWhen (sessionDue i (Session.reclaimDue s) s) (reclaimExpires i) s

/-- The entry is in the list and this deadline of it is reached (R63, R64). -/
def entryDue (k : RequestName) (deadline : WaitEntry → Option Nat) (s : State) : Bool :=
  match (s.entry? k).bind deadline with
  | some d => reached s d
  | none => false

/-- A wait expiry answers the entry TIMED-OUT, counts it, removes it, and ends its claim (R63). -/
def waitExpires (k : RequestName) (s : State) : State :=
  match s.entry? k with
  | none => s
  | some e => withdrawEntry e .timedOut (countClass .timedOut e.cls s)

/-- WAIT_EXPIRY (R63). -/
def execWaitExpiry (t : Tenant) (tag : Tag) (s : State) : Result :=
  eventWhen (entryDue ⟨t, tag⟩ WaitEntry.waitDeadline s) (waitExpires ⟨t, tag⟩) s

/-- An escalation marks the entry and raises ESCALATE; a QUEUED entry short of units gets a claim attempt (R64). -/
def escalates (k : RequestName) (s : State) : State :=
  match s.entry? k with
  | none => s
  | some e =>
    let s := raise .escalate (s.modEntry k (fun e => { e with escalated := true, escalationDeadline := none }))
    if e.state = .queued && !fitsUnits .emergency e.sector e.units s then
      claimAttempt { e with escalated := true, escalationDeadline := none } s
    else s

/-- ESCALATION (R64). -/
def execEscalation (t : Tenant) (tag : Tag) (s : State) : Result :=
  eventWhen (entryDue ⟨t, tag⟩ WaitEntry.escalationDeadline s) (escalates ⟨t, tag⟩) s

end Sys2Proof.Machine
end

