-- ==== Sys2Proof/Machine/Links.lean ====
section
/-! DEFINITION. LOCK_RISE, LOCK_FALL, FRAME_RECEIPT, JOIN and TRANSMISSION_END: the events of the Link Interfaces
(chapters 07 and 08). -/

namespace Sys2Proof.Machine

/-! ### Lock -/

def setLock (l : Link) (level : Bool) (s : State) : State := s.modLink l (fun r => { r with lock := level })

/-- A rise of the lock input: ABSENT becomes PRESENT; in any other state the level is only recorded (R140). -/
def lockRises (l : Link) (s : State) : State :=
  let s := setLock l true s
  if (s.link l).state = .absent then changeLinkState l .present s else s

/-- A fall of the lock input: a partly collected frame is abandoned and the store emptied; PRESENT and ATTACHED become ABSENT, and
an ATTACHED tenant's release sequence is carried out (R121, R136, R140). -/
def lockFalls (l : Link) (s : State) : State :=
  let was := (s.link l).state
  let s := emptyStore l (setLock l false (s.modLink l (fun r => { r with partialFrame := [] })))
  match was with
  | .absent | .halted => s
  | .present => changeLinkState l .absent s
  | .attached => releaseSequence l false (changeLinkState l .absent s)

/-- A change of a lock input's level: while the reset input is low the level alone is recorded, since the link's state is taken
from it at the release (R139, R166; log entry 10); an input already at the level does not change (R140; log entry 2). -/
def lockChange (l : Link) (level : Bool) (body : State → State) (s : State) : Result :=
  if s.resetLow then .next (setLock l level s)
  else eventWhen ((s.link l).lock != level) body s

/-- LOCK_RISE (R140). -/
def execLockRise (l : Link) (s : State) : Result := lockChange l true (lockRises l) s

/-- LOCK_FALL (R140). -/
def execLockFall (l : Link) (s : State) : Result := lockChange l false (lockFalls l) s

/-! ### Joining -/

/-- The account of a link that becomes ATTACHED (R142). -/
def setUpAccount (l : Link) (s : State) : State :=
  let a := (s.tenantPolicy l).allotment
  s.modLink l (fun r =>
    { r with allotment := a, balance := a, owed := 0, tags := Vector.replicate 256 false })

/-- A good JOIN of length 1 is taken by the presence handling (R141); a link in ABSENT receives no frame. -/
def joinReceived (l : Link) (tag : Tag) (cls : Byte) (s : State) : State :=
  match (s.link l).state with
  | .absent => s
  | .present => queueFrame l (.reply tag cls .accepted) (changeLinkState l .attached (setUpAccount l s))
  | .attached => queueFrame l (.reply tag cls .accepted) s
  | .halted => offerFault l 0x01 .notAttached (countTenant .protocol l s)

/-- JOIN: the receipt of a good one-slot JOIN, while the link's lock is high (R121, R141, R142). -/
def execJoin (l : Link) (tag : Tag) (cls : Byte) (s : State) : Result :=
  eventWhen (s.link l).lock (joinReceived l tag cls) s

/-! ### Receipt -/

/-- A frame whose check has failed is discarded (R122). -/
def checkFailed (l : Link) (f : RxFrame) (s : State) : State :=
  offerFault l f.kindByte .check (countTenant .checkFail l s)

/-- A poisoned frame is discarded (R122). -/
def poisoned (l : Link) (s : State) : State := countTenant .poisoned l s

/-- The credits of a frame discarded for its check: none for a JOIN (R122). -/
def settleUnread (l : Link) (f : RxFrame) (s : State) : State :=
  if f.kind = some .join then s else settleDiscard l f.slots s

/-- A good frame is discarded for its kind, its length or its link's state (R123). -/
def protocolDiscard (l : Link) (f : RxFrame) (reason : FaultReason) (s : State) : State :=
  offerFault l f.kindByte reason (countTenant .protocol l s)

/-- A frame with more slots than the link's balance is discarded and moves no credits (R124). -/
def overrun (l : Link) (f : RxFrame) (s : State) : State :=
  offerFault l f.kindByte .overrun (raise .overrun (countTenant .overrun l s))

/-- A frame within the balance joins the tail of its lane (R124, R126). -/
def placeFrame (l : Link) (f : RxFrame) (s : State) : State :=
  s.modLink l (fun r =>
    let r := { r with balance := r.balance - f.slots }
    match f.lane with
    | .priority => { r with priorityLane := r.priorityLane ++ [f] }
    | .ordinary => { r with ordinaryLane := r.ordinaryLane ++ [f] })

/-- A good frame is judged by its kind and the link's state, and then by the credit test (R123, R124). -/
def goodFrame (l : Link) (f : RxFrame) (s : State) : State :=
  match f.kind with
  | none => settleDiscard l f.slots (protocolDiscard l f .kind s)
  | some .join =>
    if f.lengthByte = 1 then joinReceived l f.tag f.cls s else protocolDiscard l f .kind s
  | some _ =>
    if (s.link l).state ≠ .attached then protocolDiscard l f .notAttached s
    else if (s.link l).balance < f.slots then overrun l f s
    else placeFrame l f s

/-- The receipt event of a collected frame (R121 to R124). -/
def frameReceived (l : Link) (f : RxFrame) (s : State) : State :=
  match f.check with
  | .failed => settleUnread l f (checkFailed l f s)
  | .poisoned => settleUnread l f (poisoned l s)
  | .good => goodFrame l f s

/-- A slot arrives: it is collected, and a frame whose last slot it is, is acted on (R121; log entry 5). -/
def slotArrives (l : Link) (slot : Slot) (s : State) : State :=
  let f : RxFrame := (s.link l).partialFrame ++ slot.toList
  if f.slots < slotsToCollect f.lengthByte then s.modLink l (fun r => { r with partialFrame := f })
  else frameReceived l f (s.modLink l (fun r => { r with partialFrame := [] }))

/-- FRAME_RECEIPT: frames are received while the link's lock is high (R121). -/
def execFrameReceipt (l : Link) (slot : Slot) (s : State) : Result :=
  eventWhen (s.link l).lock (slotArrives l slot) s

/-! ### Transmission -/

/-- The transmission in progress ends: its frame leaves its place, and a CREDIT is queued if credits are still owed and the store is
empty; the next transmission begins at the end of the event (R130, R136). -/
def transmissionEnds (l : Link) (s : State) : State :=
  creditIfIdle l (s.modLink l (fun r => { r with outbound := r.outbound.drop 1, sending := none }))

/-- TRANSMISSION_END (R136). -/
def execTransmissionEnd (l : Link) (s : State) : Result :=
  eventWhen (s.link l).sending.isSome (transmissionEnds l) s

end Sys2Proof.Machine
end

