-- ==== Sys2Proof/Machine/Settings.lean ====
section
/-! DEFINITION. The application of a sector's pending settings (R13 to R16). -/

namespace Sys2Proof.Machine

/-- A position after the capacity goes from `old` to `new`: RETIRED becomes FREE from `old` up to `new`, FREE becomes RETIRED at
or above `new`, and HELD and EARMARKED stay (R14, R15, R16). -/
def Position.fit (old new : Nat) (u : UnitNo) : Position → Position
  | .retired => if old ≤ u.val ∧ u.val < new then .free else .retired
  | .free => if new ≤ u.val then .retired else .free
  | .held h => .held h
  | .earmarked k => .earmarked k

/-- The pending copy becomes the effective one, and the positions follow the capacity (R13, steps 1 and 2). -/
def PoolSector.apply (p : PoolSector) : PoolSector :=
  { p with
    effective := p.pending
    positions := Vector.ofFn (fun u =>
      (p.positions.get u).fit p.effective.capacity p.pending.capacity u) }

/-- The sector's entries that satisfy `p` are removed, oldest first, each answered with the refusal `o`; then the claims of those
that were CLAIMING end in the same order (R15, R16). -/
def refuseEntries (sec : Sector) (p : WaitEntry → Bool) (o : ReplyOutcome) (s : State) : State :=
  let out := s.waitList.filter (fun e => e.sector = sec ∧ p e)
  let s := out.foldl (fun s e => refuseEntry o e (s.removeEntry e.name)) s
  endClaims ((out.filter (fun e => e.state = .claiming)).map WaitEntry.name) s

/-- The sector's pending settings are applied, up to the service run, which is left due (R13 to R16). A capacity that falls refuses
entries that no longer fit and raises CAPACITY if the sector is over capacity; a capacity of 0 closes the sector (log entries
15 and 16). -/
def applySettings (sec : Sector) (s : State) : State :=
  let old := (s.sector sec).effective.capacity
  let s := s.modSector sec PoolSector.apply
  let new := (s.sector sec).effective.capacity
  let s :=
    if new = 0 then refuseEntries sec (fun _ => true) .refusedClosed s
    else if new < old then refuseEntries sec (fun e => decide (new < e.units)) .refusedInvalid s
    else s
  let s := if (new = 0 ∨ new < old) ∧ (s.sector sec).overCapacity then raise .capacity s else s
  dueService sec s

end Sys2Proof.Machine
end

