-- ==== Sys2Proof/Machine/Metering.lean ====
section
/-! DEFINITION. WINDOW_END and the arithmetic of the Load Meters (chapter 06). -/

namespace Sys2Proof.Machine

/-- Stage 1: the rate sample S of the window (R104). -/
def rateSample (count length : Nat) : Nat := min Config.sampleMax (count * 100 / length)

/-- Stage 2: the new smoothed rate, A + trunc(D × k / 16) with D = 16 × S − A, truncated toward zero (R105). -/
def smooth (sample old weight : Nat) : Nat :=
  ((old : Int) + Int.tdiv ((16 * (sample : Int) - (old : Int)) * (weight : Int)) 16).toNat

/-- Stage 3: the load ratio L (R106). -/
def loadRatio (smoothed target : Nat) : Nat := min Config.ratioMax (smoothed * 16 / target)

/-- Stage 4: the fraction of a class (R107). -/
def fractionOf (c : Cls) (p : ClassPolicy) (ratio : Nat) : Nat :=
  match c with
  | .emergency => 256
  | .responder | .standard | .bulk =>
    if ratio ≤ p.onset then 256 else max p.floor (256 * p.onset / ratio)

/-- Stage 4: the fractions of the four classes (R107). -/
def fractionsOf (s : State) (ratio : Nat) : Vector Nat 4 :=
  #v[fractionOf .emergency (s.classPolicy .emergency) ratio,
     fractionOf .responder (s.classPolicy .responder) ratio,
     fractionOf .standard (s.classPolicy .standard) ratio,
     fractionOf .bulk (s.classPolicy .bulk) ratio]

/-- Stage 5: the length of the next window, from the configured length, the adaptive switch in force, S, T and the length of the
closing window (R109). -/
def nextLength (configured : Nat) (adaptive : Bool) (sample target length : Nat) : Nat :=
  if adaptive then
    min configured
      (if 2 * target ≤ sample then max Config.windowMin (length / 2)
       else if 2 * sample ≤ target then min configured (2 * length)
       else length)
  else configured

/-- The closing window's figures: A, L and the fractions, computed with the settings in force (R103 to R107). -/
def Meter.close (m : Meter) (p : Settings) (fractions : Nat → Vector Nat 4) : Meter :=
  let a := smooth (rateSample m.count m.length) m.smoothed p.weight
  let r := loadRatio a p.target
  { m with smoothed := a, ratio := r, fractions := fractions r }

/-- The next window begins (R100, R103). -/
def Meter.restart (m : Meter) (start length : Nat) : Meter :=
  { m with state := .counting start, count := 0, length := length }

/-- The Time Base value at which the current window ends (R100). -/
def Meter.windowEnd? (m : Meter) : Option Nat :=
  match m.state with
  | .stopped => none
  | .counting start => some (start + m.length * 10)

/-- FRACTION notices of the sector to every ATTACHED link; notices to different links have no order (R110). -/
def publish (sec : Sector) (s : State) : State :=
  let g := figures sec s
  (List.finRange 4).foldl (fun s l => queueFraction l sec g s) s

/-- The window-end event: the stages of R103 in their order. -/
def windowEnds (sec : Sector) (s : State) : State :=
  let m := s.meter sec
  let p := (s.sector sec).effective
  match m.windowEnd? with
  | none => s
  | some ended =>
    let s := s.modMeter sec (fun m => m.close p (fractionsOf s))
    let s := settle (applySettings sec s)
    let s := raise .meter (publish sec s)
    s.modMeter sec (fun x => x.restart ended
      (nextLength (s.sector sec).effective.window p.adaptive (rateSample m.count m.length) p.target m.length))

/-- WINDOW_END: due when the Time Base reaches the end of the sector's window while its meter is COUNTING (R100, R103). -/
def execWindowEnd (sec : Sector) (s : State) : Result :=
  eventWhen (match (s.meter sec).windowEnd? with
    | some t => decide (t ≤ s.timeBase)
    | none => false) (windowEnds sec) s

end Sys2Proof.Machine
end

