-- ==== Sys2Proof/Machine/Run.lean ====
section
/-! DEFINITION. What a write of RUN or TENANT-ENABLE does: the transitions, the pool clear and the tenant enables
(R144, R152 to R155). -/

namespace Sys2Proof.Machine

/-- The transition to ACTIVE: every sector's pending settings are applied and served, and every meter starts a fresh window (R113,
R153). -/
def toActive (s : State) : State :=
  let s := { s with run := .active }
  let s := settle ((List.finRange 8).foldl (fun s sec => applySettings sec s) s)
  { s with meters := Vector.ofFn (fun i => (s.meter i).restart s.timeBase (s.sector i).effective.window) }

/-- Every entry is refused with REFUSED-NOT-READY, oldest first, and then every claim ends (R70). -/
def refuseAll (s : State) : State :=
  let out := s.waitList
  let s := out.foldl (fun s e => refuseEntry .refusedNotReady e (s.removeEntry e.name)) s
  settle (endClaims ((out.filter (fun e => e.state = .claiming)).map WaitEntry.name) s)

/-- The transition to STANDBY: waiting requests are refused, claims end, and the meters stop with their figures held (R112, R154). -/
def toStandby (s : State) : State :=
  let s := refuseAll { s with run := .standby }
  { s with meters := Vector.ofFn (fun i => { s.meter i with state := .stopped }) }

/-- The RUN bit written is applied (R152). -/
def applyRunBit (bit : Bool) (s : State) : State :=
  match bit, s.run with
  | true, .standby => toActive s
  | false, .active => toStandby s
  | true, .active => s
  | false, .standby => s

/-- A sector after a pool clear: each position FREE below the effective capacity and RETIRED at or above it, every holding 0 (R17). -/
def PoolSector.cleared (p : PoolSector) : PoolSector :=
  { p with
    positions := Vector.ofFn (fun u : UnitNo => if u.val < p.effective.capacity then .free else .retired)
    holdings := Vector.replicate 4 0 }

/-- A meter after a pool clear, with the effective W: a COUNTING one starts a fresh window (R114). -/
def Meter.cleared (m : Meter) (now window : Nat) : Meter where
  state := match m.state with
    | .stopped => .stopped
    | .counting _ => .counting now
  length := window
  count := 0
  smoothed := 0
  ratio := 0
  fractions := Vector.replicate 4 256

/-- A record after a pool clear: freed, its generation advanced if it was in use (R59). -/
def Record.cleared (r : Record) : Record :=
  match r.session with
  | some _ => ⟨r.generation + 1, none⟩
  | none => r

/-- A link after a pool clear: ATTACHED becomes PRESENT, its lanes, account, Tag Table and store are emptied, and a CLEARED is queued
if it was ATTACHED (R138, R148). -/
def LinkRec.cleared (r : LinkRec) : LinkRec :=
  { r with
    state := if r.state = .attached then .present else r.state
    priorityLane := []
    ordinaryLane := []
    allotment := 0
    balance := 0
    owed := 0
    tags := Vector.replicate 256 false
    outbound := if r.state = .attached then [.cleared] else []
    sending := none }

/-- The pool clear (R155). -/
def clearPool (s : State) : State :=
  let cleared := { s with
    sectors := Vector.ofFn (fun i => (s.sector i).cleared)
    meters := Vector.ofFn (fun i => (s.meter i).cleared s.timeBase (s.sector i).effective.window)
    sessions := Vector.ofFn (fun i => (s.record i).cleared)
    waitList := []
    claims := []
    links := Vector.ofFn (fun l => (s.link l).cleared)
    arbiter := { s.arbiter with priorityCount := 0 } }
  if (List.finRange 4).any (fun l => (s.link l).state = .attached) then raise .link cleared else cleared

/-- A byte is written to RUN: the pool clear first when bit 1 is set, then the RUN bit (R152). -/
def writeRun (v : Byte) (s : State) : State :=
  applyRunBit (v.getLsbD 0) (if v.getLsbD 1 then clearPool s else s)

/-- What a write of TENANT-ENABLE does to one link's state (R144). -/
def enableLink (l : Link) (on : Bool) (s : State) : State :=
  let r := s.link l
  let s := s.modLink l (fun r => { r with enable := on })
  match on, r.state with
  | false, .absent | false, .present | false, .attached => changeLinkState l .halted (emptyStore l s)
  | false, .halted => s
  | true, .halted => changeLinkState l (if r.lock then .present else .absent) s
  | true, .absent | true, .present | true, .attached => s

/-- A byte is written to TENANT-ENABLE: each link by its bit, and then the release sequences of the ATTACHED links it halts, in
ascending link order (R144; log entry 17). -/
def writeTenantEnable (v : Byte) (s : State) : State :=
  let leaving := (List.finRange 4).filter (fun l => !v.getLsbD l.val && (s.link l).state = .attached)
  let s := (List.finRange 4).foldl (fun s l => enableLink l (v.getLsbD l.val) s) s
  leaving.foldl (fun s l => releaseSequence l false s) s

end Sys2Proof.Machine
end

