-- ==== Sys2Proof/Machine/Tables.lean ====
section
/-! DEFINITION. The policy tables: their field bytes, their clamps and commits, and the entry window
(chapter 09, sections 9.4 and 9.5, and R12). -/

namespace Sys2Proof.Machine

/-! ### Shapes (R160) -/

/-- Entries of each table; tables 6 and 7 hold none (R156, R160). -/
def tableEntries (t : Fin 8) : Nat := (#v[8, 4, 4, 32, 1, 8, 0, 0] : Vector Nat 8).get t

/-- Field bytes per entry of each table (R160). -/
def tableFields (t : Fin 8) : Nat := (#v[8, 10, 2, 1, 7, 18, 0, 0] : Vector Nat 8).get t

/-- The entry index taken modulo the entries of the table, and 0 for tables 6 and 7 (R156). -/
def reduceEntry (t : Fin 8) (e : Nat) : Fin 32 :=
  ⟨(if tableEntries t = 0 then 0 else e % tableEntries t) % 32, Nat.mod_lt _ (by decide)⟩

/-- The selection a byte written to a select register makes: bits 7–5 the table, bits 4–0 the entry (R151, R156). -/
def Selection.ofByte (v : Byte) : Selection :=
  let t : Fin 8 := (v.extractLsb' 5 3).toFin
  ⟨t, reduceEntry t (v.extractLsb' 0 5).toNat⟩

/-- A select register as it reads back (R156). -/
def Selection.byte (x : Selection) : Byte := BitVec.ofNat 3 x.table.val ++ BitVec.ofNat 5 x.entry.val

/-- The selection advanced by one entry, from the table's last entry to entry 0 (R157, R158). -/
def Selection.next (x : Selection) : Selection := ⟨x.table, reduceEntry x.table (x.entry.val + 1)⟩

/-! ### Field bytes -/

def flagByte (b : Bool) : Byte := if b then 1 else 0

/-- The field bytes of a Sector entry (R160). -/
def Settings.bytes (p : Settings) : List Byte :=
  [nat8 p.capacity, nat8 p.emergencyReserve, nat8 p.responderReserve] ++ nat16 p.target
    ++ [nat8 p.window, nat8 p.weight, flagByte p.adaptive]

/-- The field bytes of a Class Policy entry (R160). -/
def ClassPolicy.bytes (p : ClassPolicy) : List Byte :=
  nat16 p.onset ++ nat16 p.floor ++ nat16 p.waitLimit ++ [nat8 p.retryAllowance] ++ nat16 p.holdLimit
    ++ [flagByte p.queueAllowed]

/-- The field bytes of a Tenant entry (R160). -/
def TenantPolicy.bytes (p : TenantPolicy) : List Byte := [nat8 p.allotment, nat8 p.cap]

/-- The field byte of a Beam Map entry: FFh for CLOSED (R160). -/
def beamByte : Option Sector → Byte
  | some s => nat8 s.val
  | none => 0xFF

/-- The field bytes of the Global entry (R160). -/
def GlobalPolicy.bytes (p : GlobalPolicy) : List Byte :=
  nat16 p.offerLimit ++ nat16 p.reclaimLimit ++ nat16 p.escalationDelay ++ [nat8 p.ordinaryShare]

/-- The field bytes of a Sector Live entry, as they stand (R160, R165). -/
def liveBytes (sec : Sector) (s : State) : List Byte :=
  let p := s.sector sec
  let m := s.meter sec
  [nat8 p.effective.capacity, nat8 p.freeCount, nat8 p.heldCount, nat8 p.earmarkedCount, nat8 p.retiredCount]
    ++ nat16 m.count ++ [nat8 m.length] ++ nat16 m.ratio ++ fractionBytes m.fractions

/-- An entry index as an index of a table of `n` entries. -/
def entryIn (n : Nat) (h : 0 < n) (e : Fin 32) : Fin n := ⟨e.val % n, Nat.mod_lt _ h⟩

/-- The class a Class Policy entry index names (R162). -/
def classOfEntry (e : Fin 4) : Cls :=
  match e with
  | 0 => .emergency
  | 1 => .responder
  | 2 => .standard
  | 3 => .bulk

/-- The stored entry read through the window: the pending copy of the Sector Table, the committed entry of tables 1 to 4 and the live
figures of table 5 (R158). -/
def entryBytes (x : Selection) (s : State) : List Byte :=
  match x.table with
  | 0 => (s.sector (entryIn 8 (by decide) x.entry)).pending.bytes
  | 1 => (s.policy.classes.get (entryIn 4 (by decide) x.entry)).bytes
  | 2 => (s.policy.tenants.get (entryIn 4 (by decide) x.entry)).bytes
  | 3 => [beamByte (s.policy.beams.get x.entry)]
  | 4 => s.policy.globals.bytes
  | 5 => liveBytes (entryIn 8 (by decide) x.entry) s
  | _ => []

/-! ### Clamps -/

/-- Byte `i` of a staged entry as a number. -/
def field8 (b : List Byte) (i : Nat) : Nat := (b.getD i 0).toNat
/-- The two-byte field at `i`, the more significant byte first (R160). -/
def field16 (b : List Byte) (i : Nat) : Nat := (word16 (b.getD i 0) (b.getD (i + 1) 0)).toNat

/-- `x` brought within `lo` and `hi`. -/
def clamp (lo hi x : Nat) : Nat := max lo (min hi x)

/-- What the other sectors count toward the capacity sum: each the larger of its pending and effective capacity (R12). -/
def otherCapacity (sec : Sector) (s : State) : Nat :=
  (((List.finRange 8).filter (· ≠ sec)).map (fun i =>
    max (s.sector i).pending.capacity (s.sector i).effective.capacity)).sum

/-- The clamps of a Sector entry in their order (R12). -/
def clampSettings (sec : Sector) (b : List Byte) (s : State) : Settings :=
  let capacity := min (min Config.unitPositions (field8 b 0)) (Config.capacitySum - otherCapacity sec s)
  let re := min capacity (field8 b 1)
  { capacity := capacity
    emergencyReserve := re
    responderReserve := min (capacity - re) (field8 b 2)
    target := max 1 (field16 b 3)
    window := max Config.windowMin (field8 b 5)
    weight := clamp 1 16 (field8 b 6)
    adaptive := b.getD 7 0 != 0 }

/-- The clamps of a Class Policy entry; the EMERGENCY onset, floor, wait limit and queue-allowed field are fixed (R162). -/
def clampClass (c : Cls) (b : List Byte) : ClassPolicy :=
  let fixed := decide (c = .emergency)
  { onset := if fixed then 4095 else min 4095 (field16 b 0)
    floor := if fixed then 256 else min 256 (field16 b 2)
    waitLimit := if fixed then 0 else field16 b 4
    retryAllowance := min 4 (field8 b 6)
    holdLimit := field16 b 7
    queueAllowed := fixed || b.getD 9 0 != 0 }

/-- What the other tenants count toward the allotment sum: each the larger of its table allotment and its allotment in use (R163). -/
def otherAllotment (t : Tenant) (s : State) : Nat :=
  (((List.finRange 4).filter (· ≠ t)).map (fun i =>
    max (s.tenantPolicy i).allotment (s.link i).allotment)).sum

/-- The clamps of a Tenant entry in their order (R163). -/
def clampTenant (t : Tenant) (b : List Byte) (s : State) : TenantPolicy :=
  { allotment := min (clamp 4 Config.intakeSlots (field8 b 0)) (Config.intakeSlots - otherAllotment t s)
    cap := min 64 (field8 b 1) }

/-- A Beam Map byte: 0–7 a sector, any other value CLOSED (R164). -/
def beamOfByte (v : Byte) : Option Sector :=
  if h : v.toNat < 8 then some ⟨v.toNat, h⟩ else none

/-- The clamps of the Global entry (R164). -/
def clampGlobal (b : List Byte) : GlobalPolicy :=
  { offerLimit := clamp 100 10000 (field16 b 0)
    reclaimLimit := clamp 100 10000 (field16 b 2)
    escalationDelay := clamp 500 60000 (field16 b 4)
    ordinaryShare := clamp 1 32 (field8 b 6) }

/-! ### Commit -/

def State.modWindow (s : State) (f : EntryWindow → EntryWindow) : State :=
  { s with port := { s.port with window := f s.port.window } }

/-- The clamped entry replaces the stored entry: the pending copy of table 0, the committed entry of tables 1 to 4; a commit to
table 5 stores nothing (R157, R161 to R164). -/
def storeEntry (x : Selection) (b : List Byte) (s : State) : State :=
  match x.table with
  | 0 =>
    let sec := entryIn 8 (by decide) x.entry
    s.modSector sec (fun p => { p with pending := clampSettings sec b s })
  | 1 =>
    let i := entryIn 4 (by decide) x.entry
    { s with policy := { s.policy with classes := vput s.policy.classes i (clampClass (classOfEntry i) b) } }
  | 2 =>
    let i := entryIn 4 (by decide) x.entry
    { s with policy := { s.policy with tenants := vput s.policy.tenants i (clampTenant i b s) } }
  | 3 => { s with policy := { s.policy with beams := vput s.policy.beams x.entry (beamOfByte (b.getD 0 0)) } }
  | 4 => { s with policy := { s.policy with globals := clampGlobal b } }
  | _ => s

/-- The staged entry `b` is committed: stored, or ignored with the mark set for table 5; the write selection advances and the pointer
returns to 0 (R157). -/
def commit (b : List Byte) (s : State) : State :=
  let x := s.port.window.writeSelect
  (storeEntry x b s).modWindow (fun w =>
    { w with staging := [], pointer := 0, writeSelect := x.next, ignored := decide (x.table = 5) })

/-! ### The entry window -/

/-- WINDOW-SELECT-READ is written: read mode, pointer 0, a staged entry abandoned (R156, R157). -/
def selectRead (v : Byte) (s : State) : State :=
  s.modWindow (fun w => { w with mode := .read, readSelect := Selection.ofByte v, pointer := 0, staging := [] })

/-- WINDOW-SELECT-WRITE is written: write mode, pointer 0, a staged entry abandoned (R156, R157). -/
def selectWrite (v : Byte) (s : State) : State :=
  s.modWindow (fun w => { w with mode := .write, writeSelect := Selection.ofByte v, pointer := 0, staging := [] })

/-- WINDOW-DATA is written: in write mode the byte is staged, and the last field byte commits the entry; in read mode, and for tables
6 and 7, it is ignored (R157, R158). -/
def writeWindow (v : Byte) (s : State) : State :=
  let w := s.port.window
  let n := tableFields w.writeSelect.table
  if w.mode = .read ∨ n = 0 then s
  else
    let b := w.staging.take w.pointer ++ [v]
    if n ≤ w.pointer + 1 then commit b s
    else s.modWindow (fun w => { w with staging := b, pointer := w.pointer + 1 })

/-- The field bytes of a Sector Live entry that begin a two-byte field (R160). -/
def liveHighBytes : List Nat := [5, 8, 10, 12, 14, 16]

/-- The field byte at the pointer is the less significant byte of a two-byte live field (R165). -/
def EntryWindow.atLiveLow (w : EntryWindow) : Bool :=
  w.readSelect.table = 5 && liveHighBytes.any (fun i => w.pointer = i + 1)

/-- The byte a read of WINDOW-DATA returns: in read mode the field byte at the pointer, and for the second byte of a live field the one
captured; in write mode and for tables 6 and 7, 00h (R157, R158, R165). -/
def windowData (s : State) : Byte :=
  let w := s.port.window
  match w.mode with
  | .write => 0
  | .read => if w.atLiveLow then w.capture else (entryBytes w.readSelect s).getD w.pointer 0

/-- What a read of WINDOW-DATA does: in read mode the pointer advances, and after the last field the entry index; the first byte of a
two-byte live field captures its second (R158, R165). -/
def advanceWindow (s : State) : State :=
  let w := s.port.window
  let n := tableFields w.readSelect.table
  if w.mode = .write ∨ n = 0 then s
  else
    let s :=
      if w.readSelect.table = 5 ∧ w.pointer ∈ liveHighBytes then
        s.modWindow (fun x => { x with capture := (entryBytes w.readSelect s).getD (w.pointer + 1) 0 })
      else s
    if n ≤ w.pointer + 1 then s.modWindow (fun x => { x with pointer := 0, readSelect := w.readSelect.next })
    else s.modWindow (fun x => { x with pointer := w.pointer + 1 })

/-- WINDOW-STATUS: bit 0 mode, bit 1 last-commit-ignored mark, bits 6–2 field pointer (R151, R159). -/
def windowStatus (s : State) : Byte :=
  let w := s.port.window
  0#1 ++ BitVec.ofNat 5 w.pointer ++ BitVec.ofBool w.ignored ++ BitVec.ofBool (w.mode = .write)

/-- A read of WINDOW-STATUS sets the pointer to 0, which abandons a staged entry (R159). -/
def restartWindow (s : State) : State := s.modWindow (fun w => { w with pointer := 0, staging := [] })

end Sys2Proof.Machine
end

