-- ==== Sys2Proof/Machine/Port.lean ====
section
/-! DEFINITION. The Supervisor Port: the registers, and the commands that read and write them (R150, R151, R156 to R159, R168 to
R173). -/

namespace Sys2Proof.Machine

/-! ### Register addresses (R151) -/

def regRun : Byte := 0x00
def regTenantEnable : Byte := 0x01
def regSummary (second : Bool) : Byte := if second then 0x04 else 0x03
def regMask (second : Bool) : Byte := if second then 0x06 else 0x05
def regCounterLow : Byte := 0x08
def regFaultReason : Byte := 0x0D
def regSelectRead : Byte := 0x10
def regSelectWrite : Byte := 0x11
def regWindowData : Byte := 0x12
def regWindowStatus : Byte := 0x13

/-! ### What a register reads -/

/-- The code of a link state in LINK-STATE (R151). -/
def LinkState.code : LinkState → BitVec 2
  | .absent => 0
  | .present => 1
  | .attached => 2
  | .halted => 3

/-- RUN as it reads: bit 0 the state, CLEAR-POOL 0 (R151, R152). -/
def runByte (s : State) : Byte := flagByte (s.run = .active)

/-- TENANT-ENABLE as it reads (R151). -/
def enableByte (s : State) : Byte :=
  0#4 ++ BitVec.ofBool (s.link 3).enable ++ BitVec.ofBool (s.link 2).enable
    ++ BitVec.ofBool (s.link 1).enable ++ BitVec.ofBool (s.link 0).enable

/-- LINK-STATE: bits 2n+1 and 2n the state of link n (R151). -/
def linkStateByte (s : State) : Byte :=
  (s.link 3).state.code ++ (s.link 2).state.code ++ (s.link 1).state.code ++ (s.link 0).state.code

/-- The counter COUNTER-SELECT names; 48–255 name none (R171). -/
def selectedCounter (s : State) : Option (Fin 48) :=
  if h : s.port.counterSelect.toNat < 48 then some ⟨s.port.counterSelect.toNat, h⟩ else none

/-- The value of the selected counter, 0 when none is selected (R171). -/
def counterValue (s : State) : BitVec 16 :=
  match selectedCounter s with
  | some n => BitVec.ofNat 16 (s.counters.get n)
  | none => 0

/-- The fault record's four bytes: marks, tenant, kind, reason; 00h each while it is free (R173). -/
def faultMarks (r : FaultRecord) : Byte := 0#6 ++ BitVec.ofBool r.overflow ++ BitVec.ofBool r.held.isSome
def faultTenant (r : FaultRecord) : Byte := match r.held with
  | some f => nat8 f.tenant.val
  | none => 0
def faultKind (r : FaultRecord) : Byte := match r.held with
  | some f => f.kind
  | none => 0
def faultReason (r : FaultRecord) : Byte := match r.held with
  | some f => f.reason.code
  | none => 0

/-- The byte a read of the register returns; unlisted addresses return 00h (R151). -/
def registerByte (a : Byte) (s : State) : Byte :=
  match a.toNat with
  | 0x00 => runByte s
  | 0x01 => enableByte s
  | 0x02 => linkStateByte s
  | 0x03 => s.marks.extractLsb' 0 8
  | 0x04 => (s.marks.extractLsb' 8 1).zeroExtend 8
  | 0x05 => s.mask.extractLsb' 0 8
  | 0x06 => (s.mask.extractLsb' 8 1).zeroExtend 8
  | 0x07 => s.port.counterSelect
  | 0x08 => (counterValue s).extractLsb' 0 8
  | 0x09 => s.port.latch
  | 0x0A => faultMarks s.fault
  | 0x0B => faultTenant s.fault
  | 0x0C => faultKind s.fault
  | 0x0D => faultReason s.fault
  | 0x10 => s.port.window.readSelect.byte
  | 0x11 => s.port.window.writeSelect.byte
  | 0x12 => windowData s
  | 0x13 => windowStatus s
  | _ => 0

/-! ### Side effects of reads -/

/-- A read of 03h clears the eight marks of the first byte, a read of 04h the METER mark (R168). -/
def clearSummary (second : Bool) (s : State) : State :=
  { s with marks := s.marks &&& (if second then 0x0FF#9 else 0x100#9) }

/-- A read of the low byte of COUNTER-DATA latches the high byte and clears the selected counter (R171). -/
def takeCounter (s : State) : State :=
  let high := (counterValue s).extractLsb' 8 8
  let s := match selectedCounter s with
    | some n => { s with counters := vput s.counters n 0 }
    | none => s
  { s with port := { s.port with latch := high } }

/-- A read of the reason byte frees the fault record (R173). -/
def freeFault (s : State) : State := { s with fault := ⟨none, false⟩ }

/-- What a read of the register does besides (R151, R158, R159, R168, R171, R173). -/
def readEffect (a : Byte) (s : State) : State :=
  match a.toNat with
  | 0x03 => clearSummary false s
  | 0x04 => clearSummary true s
  | 0x08 => takeCounter s
  | 0x0D => freeFault s
  | 0x12 => advanceWindow s
  | 0x13 => restartWindow s
  | _ => s

/-! ### Writes -/

/-- A write of an EVENT-MASK byte replaces it; bits 1–7 of the second byte are ignored (R169). -/
def writeMask (second : Bool) (v : Byte) (s : State) : State :=
  { s with mask := if second then v.extractLsb' 0 1 ++ s.mask.extractLsb' 0 8 else s.mask.extractLsb' 8 1 ++ v }

/-- What a byte written to the register does; read-only and unlisted addresses ignore it (R151). -/
def writeEffect (a v : Byte) (s : State) : State :=
  match a.toNat with
  | 0x00 => writeRun v s
  | 0x01 => writeTenantEnable v s
  | 0x05 => writeMask false v s
  | 0x06 => writeMask true v s
  | 0x07 => { s with port := { s.port with counterSelect := v } }
  | 0x10 => selectRead v s
  | 0x11 => selectWrite v s
  | 0x12 => writeWindow v s
  | _ => s

/-! ### Transactions -/

/-- The device address the part answers: 10110, ADR1, ADR0 (R150). -/
def State.deviceAddress (s : State) : BusAddress :=
  0b10110#5 ++ BitVec.ofBool s.port.adr1 ++ BitVec.ofBool s.port.adr0

/-- The pointer after a byte at address `a`: one on, from FFh to 00h, but at WINDOW-DATA it stays (R151). -/
def nextPointer (a : Byte) : Byte := if a = regWindowData then a else a + 1

def State.modPort (s : State) (f : Port → Port) : State := { s with port := f s.port }

/-- The data byte `v` is written at the pointer (R151). -/
def writeByte (v : Byte) (s : State) : State :=
  let a := s.port.pointer
  (writeEffect a v (s.modPort (fun p => { p with acknowledged := true }))).modPort
    (fun p => { p with pointer := nextPointer a })

/-- A byte is read at the pointer; the controller's negative acknowledge, no `more`, ends the part's sending (R150, R151). -/
def readByte (more : Bool) (s : State) : State :=
  let a := s.port.pointer
  let v := registerByte a s
  (readEffect a s).modPort (fun p =>
    { p with pointer := nextPointer a, dataOut := v, transaction := if more then some .read else none })

/-- An address byte that is not the part's: the part does not acknowledge it and ignores the rest (R150). -/
def notAddressed (s : State) : State := s.modPort (fun p => { p with transaction := none, acknowledged := false })

/-- A transaction in this direction begins at the device address; `body` is what follows when it is the part's. While the reset input is
low the part acknowledges nothing (R150, R166; log entries 7, 8 and 10). -/
def addressed (device : BusAddress) (dir : BusDirection) (body : State → State) (s : State) : Result :=
  if s.resetLow then .next (s.modPort (fun p => { p with acknowledged := false }))
  else if device = s.deviceAddress then
    .next (runEvent (fun s => body (s.modPort (fun p =>
      { p with transaction := some dir, acknowledged := true }))) s)
  else .next (notAddressed s)

/-- A byte of the transaction in progress, when there is one in this direction; otherwise it is not the part's (R150). -/
def continued (dir : BusDirection) (body : State → State) (s : State) : Result :=
  if s.resetLow ∨ s.port.transaction ≠ some dir then .next (s.modPort (fun p => { p with acknowledged := false }))
  else .next (runEvent body s)

/-- The supervisor writes the byte `v` to the register at `a`: a write transaction with the register address and the byte (R151; log
entry 7). -/
def writeAccess (device : BusAddress) (a v : Byte) (s : State) : Result :=
  addressed device .write (fun s => writeByte v (s.modPort (fun p => { p with pointer := a }))) s

/-- The supervisor reads the register at `a`: a write transaction with the register address alone, a repeated start and a read (R151; log
entry 7). -/
def readAccess (device : BusAddress) (a : Byte) (more : Bool) (s : State) : Result :=
  addressed device .read (fun s => readByte more (s.modPort (fun p => { p with pointer := a }))) s

/-! ### The commands -/

/-- REGISTER_POINTER_WRITE (R151). -/
def execRegisterPointerWrite (device : BusAddress) (a : Byte) (s : State) : Result :=
  addressed device .write (fun s => s.modPort (fun p => { p with pointer := a })) s

/-- REGISTER_WRITE: the next byte of the write transaction in progress, at the pointer (R151). -/
def execRegisterWrite (v : Byte) (s : State) : Result := continued .write (writeByte v) s

/-- REGISTER_READ: the first byte of a new read transaction, or the next of the one in progress, at the pointer (R151). -/
def execRegisterRead (start : Option BusAddress) (more : Bool) (s : State) : Result :=
  match start with
  | some device => addressed device .read (readByte more) s
  | none => continued .read (readByte more) s

/-- TRANSITION_TO_ACTIVE: RUN is written with its bit 0 set (R152, R153). -/
def execTransitionToActive (device : BusAddress) (s : State) : Result := writeAccess device regRun 0x01 s

/-- TRANSITION_TO_STANDBY: RUN is written with its bit 0 clear (R152, R154). -/
def execTransitionToStandby (device : BusAddress) (s : State) : Result := writeAccess device regRun 0x00 s

/-- CLEAR_POOL: RUN is written with CLEAR-POOL set and this RUN bit (R152, R155). -/
def execClearPool (device : BusAddress) (runBit : Bool) (s : State) : Result :=
  writeAccess device regRun (if runBit then 0x03 else 0x02) s

/-- TENANT_ENABLE (R144). -/
def execTenantEnable (device : BusAddress) (v : Byte) (s : State) : Result := writeAccess device regTenantEnable v s

/-- EVENT_SUMMARY_READ (R168). -/
def execEventSummaryRead (device : BusAddress) (second more : Bool) (s : State) : Result :=
  readAccess device (regSummary second) more s

/-- EVENT_MASK_WRITE (R169). -/
def execEventMaskWrite (device : BusAddress) (second : Bool) (v : Byte) (s : State) : Result :=
  writeAccess device (regMask second) v s

/-- COUNTER_DATA_LOW_READ (R171). -/
def execCounterDataLowRead (device : BusAddress) (more : Bool) (s : State) : Result :=
  readAccess device regCounterLow more s

/-- FAULT_RECORD_REASON_READ (R173). -/
def execFaultRecordReasonRead (device : BusAddress) (more : Bool) (s : State) : Result :=
  readAccess device regFaultReason more s

/-- WINDOW_SELECT_READ (R156). -/
def execWindowSelectRead (device : BusAddress) (v : Byte) (s : State) : Result := writeAccess device regSelectRead v s

/-- WINDOW_SELECT_WRITE (R156). -/
def execWindowSelectWrite (device : BusAddress) (v : Byte) (s : State) : Result := writeAccess device regSelectWrite v s

/-- WINDOW_DATA_WRITE (R157). -/
def execWindowDataWrite (device : BusAddress) (v : Byte) (s : State) : Result := writeAccess device regWindowData v s

/-- WINDOW_DATA_READ (R158). -/
def execWindowDataRead (device : BusAddress) (more : Bool) (s : State) : Result := readAccess device regWindowData more s

/-- WINDOW_STATUS_READ (R159). -/
def execWindowStatusRead (device : BusAddress) (more : Bool) (s : State) : Result :=
  readAccess device regWindowStatus more s

end Sys2Proof.Machine
end

