-- ==== Sys2Proof/Machine/Reset.lean ====
section
/-! DEFINITION. FULL_RESET, RESET_ASSERT and TIME_BASE_TICK (R166, R174). -/

namespace Sys2Proof.Machine

/-- The state of a link at the release of the reset input: PRESENT if its lock input is high, ABSENT if it is low (R139). -/
def LinkRec.atReset (lock : Bool) : LinkRec :=
  { LinkRec.reset with lock := lock, state := if lock then .present else .absent }

/-- FULL_RESET: every piece of state takes its value after full reset, with the levels of ADR1 and ADR0 sampled and each link by its
lock input (R166). The lock inputs and the queue of commands are outside the part and stay. The effect of a low pulse shorter than
10 µs is not defined (log entry 9). -/
def execFullReset (lowMicroseconds : Nat) (adr1 adr0 : Bool) (s : State) : Result :=
  if lowMicroseconds < Config.resetPulseMin then .fault .resetPulseTooShort
  else .next { State.reset with
    pending := s.pending
    links := Vector.ofFn (fun l => LinkRec.atReset (s.link l).lock)
    port := { Port.reset with adr1 := adr1, adr0 := adr0 } }

/-- RESET_ASSERT: the reset input goes low. No link transmits, so a frame in transmission is cut off, and a bus transaction in
progress is abandoned; the attention output is released and no byte is acknowledged while the input stays low (R150, R166). -/
def execResetAssert (s : State) : Result :=
  .next { s with
    resetLow := true
    links := Vector.ofFn (fun l => { s.link l with sending := none })
    port := { s.port with transaction := none, acknowledged := false } }

/-- TIME_BASE_TICK: the Time Base advances by one and stops at its 40-bit maximum (R174). -/
def execTimeBaseTick (s : State) : Result :=
  eventWhen true (fun s => { s with timeBase := min Config.timeBaseMax (s.timeBase + 1) }) s

end Sys2Proof.Machine
end

