-- ==== Sys2Proof/Machine/Dispatch.lean ====
section
/-! DEFINITION. What each command does to everything but the queue: one arm per row of the opcode table. -/

namespace Sys2Proof.Machine

def exec (i : Instr) (s : State) : Host.Outcome State Fault Refusal :=
  match i with
  | .fullReset us a1 a0 => Sys2Proof.Machine.execFullReset us a1 a0 s
  | .resetAssert => Sys2Proof.Machine.execResetAssert s
  | .timeBaseTick => Sys2Proof.Machine.execTimeBaseTick s
  | .lockRise l => Sys2Proof.Machine.execLockRise l s
  | .lockFall l => Sys2Proof.Machine.execLockFall l s
  | .frameReceipt l slot => Sys2Proof.Machine.execFrameReceipt l slot s
  | .join l tag cls => Sys2Proof.Machine.execJoin l tag cls s
  | .ask => Sys2Proof.Machine.execAsk s
  | .taken => Sys2Proof.Machine.execTaken s
  | .missed => Sys2Proof.Machine.execMissed s
  | .endSession => Sys2Proof.Machine.execEndSession s
  | .yielded => Sys2Proof.Machine.execYielded s
  | .drop => Sys2Proof.Machine.execDrop s
  | .look => Sys2Proof.Machine.execLook s
  | .leave => Sys2Proof.Machine.execLeave s
  | .offerExpiry r => Sys2Proof.Machine.execOfferExpiry r s
  | .holdExpiry r => Sys2Proof.Machine.execHoldExpiry r s
  | .reclaimExpiry r => Sys2Proof.Machine.execReclaimExpiry r s
  | .waitExpiry t tag => Sys2Proof.Machine.execWaitExpiry t tag s
  | .escalation t tag => Sys2Proof.Machine.execEscalation t tag s
  | .windowEnd sec => Sys2Proof.Machine.execWindowEnd sec s
  | .transmissionEnd l => Sys2Proof.Machine.execTransmissionEnd l s
  | .registerPointerWrite d a => Sys2Proof.Machine.execRegisterPointerWrite d a s
  | .registerWrite v => Sys2Proof.Machine.execRegisterWrite v s
  | .transitionToActive d => Sys2Proof.Machine.execTransitionToActive d s
  | .transitionToStandby d => Sys2Proof.Machine.execTransitionToStandby d s
  | .clearPool d b => Sys2Proof.Machine.execClearPool d b s
  | .tenantEnable d v => Sys2Proof.Machine.execTenantEnable d v s
  | .eventSummaryRead d second more => Sys2Proof.Machine.execEventSummaryRead d second more s
  | .eventMaskWrite d second v => Sys2Proof.Machine.execEventMaskWrite d second v s
  | .counterDataLowRead d more => Sys2Proof.Machine.execCounterDataLowRead d more s
  | .faultRecordReasonRead d more => Sys2Proof.Machine.execFaultRecordReasonRead d more s
  | .windowSelectRead d v => Sys2Proof.Machine.execWindowSelectRead d v s
  | .windowSelectWrite d v => Sys2Proof.Machine.execWindowSelectWrite d v s
  | .windowDataWrite d v => Sys2Proof.Machine.execWindowDataWrite d v s
  | .windowDataRead d more => Sys2Proof.Machine.execWindowDataRead d more s
  | .windowStatusRead d more => Sys2Proof.Machine.execWindowStatusRead d more s
  | .registerRead start more => Sys2Proof.Machine.execRegisterRead start more s

end Sys2Proof.Machine
end

