-- ==== Sys2Proof/Safety.lean ====
section
/-! DEFINITION. The terms the statements are written in: when a command finds the part ready for it, what a served frame
leaves on its link, the bytes of a frame sent, the tests of chapter 02 in the manual's own figures, and the invariants. -/

namespace Sys2Proof

/-! ### Rows of the Supervisor Port -/

/-- A row that is a write of one byte to one register: the device address, the register's address and the byte (R151). -/
def Instr.asWrite : Instr → Option (BusAddress × Byte × Byte)
  | .transitionToActive d => some (d, 0x00, 0x01)
  | .transitionToStandby d => some (d, 0x00, 0x00)
  | .clearPool d run => some (d, 0x00, if run then 0x03 else 0x02)
  | .tenantEnable d v => some (d, 0x01, v)
  | .eventMaskWrite d second v => some (d, if second then 0x06 else 0x05, v)
  | .windowSelectRead d v => some (d, 0x10, v)
  | .windowSelectWrite d v => some (d, 0x11, v)
  | .windowDataWrite d v => some (d, 0x12, v)
  | _ => none

/-- A row that is a read of one byte of one register: the device address, the register's address and whether the controller reads on
(R151). -/
def Instr.asRead : Instr → Option (BusAddress × Byte × Bool)
  | .eventSummaryRead d second more => some (d, if second then 0x04 else 0x03, more)
  | .counterDataLowRead d more => some (d, 0x08, more)
  | .faultRecordReasonRead d more => some (d, 0x0D, more)
  | .windowDataRead d more => some (d, 0x12, more)
  | .windowStatusRead d more => some (d, 0x13, more)
  | _ => none

/-- The device address a row names, where it begins a transaction (R150). -/
def Instr.device? : Instr → Option BusAddress
  | .registerPointerWrite d _ => some d
  | .registerRead start _ => start
  | c => (c.asWrite.map (·.1)).or (c.asRead.map (·.1))

/-- A row of the Supervisor Port. -/
def Instr.busRow (c : Instr) : Bool :=
  match c with
  | .registerWrite _ | .registerRead none _ => true
  | _ => c.device?.isSome

end Sys2Proof

namespace Sys2Proof.Machine

/-! ### Ready for an event -/

/-- No link is idle with a frame to send, as it is whenever an event is complete (R136). -/
abbrev Quiet (s : State) : Prop := ∀ l : Link, (s.link l).mayBegin = false

/-- The reset input is high and no transmission is about to begin. -/
abbrev Ready (s : State) : Prop := s.resetLow = false ∧ Quiet s

/-- The arbiter's choice is a frame of this kind with the length byte of its kind, and its link's lock input is high (R125,
R132, R139). -/
abbrev EngineTurn (k : FrameKind) (l : Link) (x : Lane) (f : RxFrame) (s : State) : Prop :=
  Ready s ∧ arbiterChoice s = some (l, x, f) ∧ f.kind = some k ∧ f.lengthByte.toNat = k.slots ∧ (s.link l).lock = true

/-- The rows of the Admission Engine, with the kind each carries out. -/
def engineRows : List (Instr × FrameKind) :=
  [(.ask, .ask), (.taken, .taken), (.missed, .missed), (.endSession, .endSession), (.yielded, .yielded),
   (.drop, .drop), (.look, .look), (.leave, .leave)]

/-- The last slot of the frame `f` arrives on the link (R121). -/
abbrev Arrives (l : Link) (slot : Slot) (f : RxFrame) (s : State) : Prop :=
  Ready s ∧ (s.link l).lock = true ∧ f = (s.link l).partialFrame ++ slot.toList ∧
    slotsToCollect f.lengthByte ≤ f.slots

/-- The device address the part answers, 10110 followed by ADR1 and ADR0 (R150). -/
abbrev Addressed (device : BusAddress) (s : State) : Prop :=
  Ready s ∧ device = 0b10110#5 ++ BitVec.ofBool s.port.adr1 ++ BitVec.ofBool s.port.adr0

/-! ### What an event leaves on a link -/

/-- The link after the head of this lane has left the Intake Buffer (R128). -/
def LinkRec.taken (r : LinkRec) : Lane → LinkRec
  | .priority => { r with priorityLane := r.priorityLane.tail }
  | .ordinary => { r with ordinaryLane := r.ordinaryLane.tail }

/-- The link after an event that queues these frames on it and makes `rise` more slots owed: a transmission in progress goes
on, and on an idle link the first frame's transmission begins (R128, R129, R136). -/
def LinkRec.after (r : LinkRec) (frames : List OutFrame) (rise : Nat) : LinkRec :=
  let r := { r with outbound := r.outbound ++ frames, owed := r.owed + rise }
  if r.sending.isSome || frames.isEmpty then r else r.begin

/-- The state after the arbiter has handed over the frame `f` of this lane and the engine has done nothing but queue these frames
on its link (R128, R132). -/
def State.serve (s : State) (l : Link) (x : Lane) (f : RxFrame) (frames : List OutFrame) : State :=
  { s with
    links := vmod s.links l (fun r => (r.taken x).after frames f.slots)
    arbiter := ⟨l, match x with
      | .priority => min 32 (s.arbiter.priorityCount + 1)
      | .ordinary => 0⟩
    work := EventWork.none }

/-- The state after an event that does nothing but queue these frames on the link. -/
def State.queued (s : State) (l : Link) (frames : List OutFrame) : State :=
  { s with links := vmod s.links l (fun r => r.after frames 0), work := EventWork.none }

/-- A frame can be queued on the link without a stall, and its transmission begins if the link is idle (R136, R137). -/
abbrev Roomy (l : Link) (n : Nat) (s : State) : Prop :=
  (s.link l).state = .attached ∧ (s.link l).lock = true ∧ (s.link l).outbound.length + n ≤ 128

/-- The session of the record is `y`. -/
def State.setSession (s : State) (i : RecordIndex) (y : Session) : State :=
  s.modRecord i (fun r => ⟨r.generation, some y⟩)

/-! ### The bytes of a frame sent, in the manual's figures -/

/-- The check of a frame's bytes: each bit in turn, the most significant of a byte first, shifts the value, which begins as FFFFh, through the
generator 1021h (R117). -/
def checkOf (bytes : List Byte) : BitVec 16 :=
  (bytes.flatMap (fun b => (List.range 8).map b.getMsbD)).foldl
    (fun r bit => if r.msb = bit then r <<< 1 else (r <<< 1) ^^^ 0x1021#16) 0xFFFF#16

/-- The table of outcome codes (R120). -/
def outcomeCode : ReplyOutcome → Nat
  | .granted => 0x01
  | .queued => 0x02
  | .accepted => 0x03
  | .refusedBusy => 0x10
  | .refusedClosed => 0x11
  | .refusedInvalid => 0x12
  | .refusedNotReady => 0x13
  | .refusedFull => 0x14
  | .timedOut => 0x20
  | .displaced => 0x21
  | .withdrawn => 0x22
  | .cancelled => 0x23
  | .tagBusy => 0x30
  | .unknown => 0x31
  | .wrongState => 0x32

/-- The bytes of a frame sent with this credit-return code, up to its check: header (R116, R119) and layout (R120). -/
def sentBytes (g : OutFrame) (code : Fin 8) : List Byte :=
  let two := fun (v : Nat) => [v / 256, v]
  let handle := fun (h : Handle) => two h.index.val ++ [h.generation.val]
  let load := fun (x : Figures) => two x.ratio ++ two (x.fractions.get 0) ++ two (x.fractions.get 1) ++
    two (x.fractions.get 2) ++ two (x.fractions.get 3) ++ [0, 0]
  let bytes : List Nat := match g with
    | .reply tag cls o => [0x81, 1, tag.toNat, cls.toNat, code.val, outcomeCode o]
    | .replyHandle tag cls o i n =>
      [0x81, 2, tag.toNat, cls.toNat, code.val, outcomeCode o, 0, 0] ++ two i.toNat ++ [n.toNat, 0, 0, 0]
    | .replyGranted tag cls h sec us =>
      [0x81, 3, tag.toNat, cls.toNat, code.val, 0x01, 0, 0] ++ handle h ++ [sec.val, us.length] ++ us.map Fin.val ++
        List.replicate (8 - us.length) 0 ++ [0]
    | .replyLook tag cls sec capacity x =>
      [0x81, 3, tag.toNat, cls.toNat, code.val, 0x03, sec.val, 0, x.free, capacity] ++ load x
    | .vacate h => [0x82, 2, 0, 0x01, code.val, 0, 0, 0] ++ handle h ++ [0, 0, 0]
    | .lapse cause h =>
      let cause := match cause with
        | .offerExpired => 0x02
        | .holdLimit => 0x03
        | .forcedReclaim => 0x04
      [0x83, 2, 0, cause, code.val, 0, 0, 0] ++ handle h ++ [0, 0, 0]
    | .fraction sec x => [0x84, 3, 0, 0, code.val, sec.val, 0, 0, x.free, 0] ++ load x
    | .credit => [0x85, 1, 0, 0, code.val, 0]
    | .cleared => [0x86, 1, 0, 0, code.val, 0]
  bytes.map (BitVec.ofNat 8)

/-! ### Sessions and units -/

/-- The frame's handle matches the record: in use, of the generation named, of the sender (R45). -/
abbrev Matches (l : Link) (f : RxFrame) (i : RecordIndex) (s : State) : Prop :=
  f.recordIndex.toNat = i.val ∧ f.generation.toNat = (s.record i).generation.val ∧
    ∃ y ∈ s.session? i, y.tenant = l

/-- The frame's handle matches the record, whose session is `y`. -/
abbrev Names (l : Link) (f : RxFrame) (i : RecordIndex) (y : Session) (s : State) : Prop :=
  Matches l f i s ∧ s.session? i = some y

/-- The class is STANDARD or BULK (R9). -/
def Cls.counted : Cls → Bool
  | .standard | .bulk => true
  | .emergency | .responder => false

/-- Positions that are released go FREE below the effective capacity and RETIRED at or above it (R7). -/
def PoolSector.after (p : PoolSector) (f : UnitNo → Position) : PoolSector := { p with positions := Vector.ofFn f }

/-- The state of a position given up to the pool (R7). -/
def PoolSector.returned (p : PoolSector) (u : UnitNo) : Position :=
  if u.val < p.effective.capacity then .free else .retired

/-- The tenant's holding changed by `g` if the class counts toward it (R9). -/
def PoolSector.holding (p : PoolSector) (c : Cls) (t : Tenant) (g : Nat → Nat) : PoolSector :=
  { p with holdings := if c.counted then vmod p.holdings t g else p.holdings }

/-- The state with the session `y` of the record freed and all its units given up to the pool (R7, R9, R44). -/
def State.freed (s : State) (i : RecordIndex) (y : Session) : State :=
  (s.modRecord i (fun r => ⟨r.generation + 1, none⟩)).modSector y.sector (fun p =>
    (p.after (fun u => if u ∈ y.units then p.returned u else p.positions.get u)).holding
      y.cls y.tenant (· - y.units.length))

/-- Nobody waits for units of the sector: it has no claim and no QUEUED entry (R72). -/
abbrev NoneWaiting (sec : Sector) (s : State) : Prop :=
  (∀ e ∈ s.waitList, e.sector = sec → e.state ≠ .queued) ∧ ∀ c ∈ s.claims, c.sector ≠ sec

/-- The session gives its units to no claim: it is not RECLAIMING, or its claim has left the table (R5). -/
def Session.unclaimed (y : Session) : Bool :=
  match y.state with
  | .offered _ => true
  | .active _ => true
  | .reclaiming _ c => c.isNone

/-- The lowest record index not in use (R41). -/
abbrev LowestFree (i : RecordIndex) (s : State) : Prop :=
  s.session? i = none ∧ ∀ j < i, s.session? j ≠ none

/-- The session a grant makes (R42). -/
def State.granted (s : State) (t : Tenant) (c : Cls) (sec : Sector) (us : List UnitNo) : Session :=
  ⟨t, c, sec, us, .offered (s.timeBase + s.policy.globals.offerLimit), s.timeBase, (s.classPolicy c).retryAllowance, 0⟩

/-! ### The tests of an ASK, in the manual's figures -/

/-- The room test (the table of R26, with the usable free units of R8, which do not go below 0). -/
def roomFor (t : Tenant) (c : Cls) (sec : Sector) (n : Nat) (s : State) : Bool :=
  let p := s.sector sec
  match c with
  | .emergency => n ≤ p.freeCount
  | .responder => n ≤ p.freeCount - p.effective.emergencyReserve
  | .standard | .bulk =>
    n ≤ p.freeCount - p.effective.emergencyReserve - p.effective.responderReserve &&
      p.holdings.get t + n ≤ (s.tenantPolicy t).cap

/-- A STANDARD or BULK entry blocked only by its own tenant cap (R26, R27). -/
def capBlocked (s : State) (e : WaitEntry) : Bool :=
  let p := s.sector e.sector
  e.cls.counted &&
    e.units ≤ p.freeCount - p.effective.emergencyReserve - p.effective.responderReserve &&
    (s.tenantPolicy e.tenant).cap < p.holdings.get e.tenant + e.units

/-- The order test (the table of R27; R78 differs on a RESPONDER behind a waiting EMERGENCY entry, log entry 28). -/
def orderFor (c : Cls) (sec : Sector) (s : State) : Bool :=
  match c with
  | .emergency => true
  | .responder =>
    s.waitList.all (fun e => e.sector != sec || e.cls != .responder) && s.claims.all (fun k => k.sector != sec)
  | .standard => s.waitList.all (fun e => e.sector != sec || e.cls == .bulk || capBlocked s e)
  | .bulk => s.waitList.all (fun e => e.sector != sec || capBlocked s e)

/-- The class may wait (the table of R30). -/
def waitsFor (t : Tenant) (c : Cls) (sec : Sector) (n : Nat) (s : State) : Bool :=
  match c with
  | .emergency => true
  | .responder | .standard => (s.classPolicy c).queueAllowed
  | .bulk => (s.classPolicy c).queueAllowed && (s.sector sec).holdings.get t + n ≤ (s.tenantPolicy t).cap

/-- The ASK reaches step 5 of R20: the part is ACTIVE, its tag is free, its class byte names the class `c` and its beam maps to the
sector. -/
abbrev AskReaches (l : Link) (x : Lane) (f : RxFrame) (c : Cls) (sec : Sector) (s : State) : Prop :=
  EngineTurn .ask l x f s ∧ s.run = .active ∧ (s.link l).tags.get (tagIndex f.tag) = false ∧
    Cls.ofByte f.cls = some c ∧ beamSector f.beam s = some sec

/-- The ASK reaches step 8 of R20: the sector is open and has room for its units at all. -/
abbrev AskOpen (l : Link) (x : Lane) (f : RxFrame) (c : Cls) (sec : Sector) (s : State) : Prop :=
  AskReaches l x f c sec s ∧ f.units ≤ (s.sector sec).effective.capacity

/-- The ASK fails its tests and its class may wait (R30). -/
abbrev AskWaits (l : Link) (x : Lane) (f : RxFrame) (c : Cls) (sec : Sector) (s : State) : Prop :=
  AskOpen l x f c sec s ∧ (roomFor l c sec f.units s && orderFor c sec s) = false ∧ waitsFor l c sec f.units s = true

/-- The state with the ASK counted in its sector's meter and in ASKED (R24). -/
def State.counted (s : State) (c : Cls) (sec : Sector) : State :=
  countClass .asked c (s.modMeter sec (fun m => { m with count := min 4095 (m.count + 1) }))

/-- The wait entry an ASK becomes, in this state (R31, R60). -/
def State.entryFor (s : State) (l : Link) (f : RxFrame) (c : Cls) (sec : Sector) (x : EntryState) : WaitEntry where
  tenant := l
  tag := f.tag
  cls := c
  sector := sec
  units := f.units
  arrival := s.timeBase
  waitDeadline :=
    if (s.classPolicy c).waitLimit = 0 then none else some (s.timeBase + (s.classPolicy c).waitLimit)
  escalationDeadline :=
    match c with
    | .emergency => some (s.timeBase + s.policy.globals.escalationDelay)
    | _ => none
  escalated := false
  claimPending := false
  state := x

/-- A session the entry's claim may take (R83). -/
def candidate (e : WaitEntry) (y : Session) : Bool :=
  y.sector = e.sector &&
    (match y.state with
      | .reclaiming _ _ => false
      | _ => true) &&
    (match e.cls, y.cls with
      | .emergency, .bulk | .emergency, .standard | .responder, .bulk => true
      | .emergency, .responder => e.escalated
      | _, _ => false)

/-- The units a record offers the entry's attempt: those of its session if that is a candidate (R83). -/
def unitsOffered (e : WaitEntry) : Option Session → Nat
  | some y => if candidate e y then y.units.length else 0
  | none => 0

/-- The units all candidates of the entry's attempt hold together (R83, R84). -/
def candidateUnits (e : WaitEntry) (s : State) : Nat :=
  ((List.finRange 512).map (fun i => unitsOffered e (s.session? i))).sum

/-- `a` stands before `b` in victim order: the lower class first; within one class OFFERED before ACTIVE; within one class and state the
latest admitted time first; and between equal admitted times the higher record index first (R84). -/
abbrev goesBefore (a b : RecordIndex × Session) : Prop :=
  let offered := fun (y : Session) => match y.state with
    | .offered _ => true
    | _ => false
  b.2.cls.index < a.2.cls.index ∨
    a.2.cls = b.2.cls ∧
      (offered a.2 = true ∧ offered b.2 = false ∨
        offered a.2 = offered b.2 ∧
          (b.2.admitted < a.2.admitted ∨ a.2.admitted = b.2.admitted ∧ b.1 < a.1))

/-- The candidates together hold fewer units than the entry's shortfall (R82, R84). -/
abbrev TooFewVictims (e : WaitEntry) (s : State) : Prop :=
  candidateUnits e s < e.units - (s.sector e.sector).usable e.cls

/-- No claim is made for the entry: its class gets no attempt, it is not short of units, or the attempt finds room in the table and too few
victims (R32, R67, R84). -/
abbrev NoClaimMade (e : WaitEntry) (s : State) : Prop :=
  e.cls.counted = true ∨ roomFor e.tenant e.cls e.sector e.units s = true ∨ (s.claims.length < 16 ∧ TooFewVictims e s)

/-! ### Departure, discard, release of a claim -/

/-- Nothing in the part belongs to the tenant (R145, R147). -/
abbrev HoldsNothing (l : Link) (s : State) : Prop :=
  (s.link l).priorityLane = [] ∧ (s.link l).ordinaryLane = [] ∧ (s.link l).allotment = 0 ∧ (s.link l).balance = 0 ∧
    (s.link l).owed = 0 ∧ (∀ g, (s.link l).tags.get g = false) ∧ (∀ e ∈ s.waitList, e.tenant ≠ l) ∧
    (∀ c ∈ s.claims, c.claimant.tenant ≠ l) ∧ ∀ i, ∀ y ∈ s.session? i, y.tenant ≠ l

/-- What a departure leaves as it was: the Time Base, RUN, the meters, the tables and settings, the port, the mask, the fault record, the
queue, and every FORCED counter and the FORCED mark (R145). -/
structure DepartureKeeps (s t : State) : Prop where
  pending : t.pending = s.pending
  timeBase : t.timeBase = s.timeBase
  run : t.run = s.run
  meters : t.meters = s.meters
  policy : t.policy = s.policy
  mask : t.mask = s.mask
  fault : t.fault = s.fault
  effective : ∀ i, (t.sector i).effective = (s.sector i).effective
  settings : ∀ i, (t.sector i).pending = (s.sector i).pending
  forced : ∀ m, t.counters.get (tenantCounterNo .forced m) = s.counters.get (tenantCounterNo .forced m)
  forcedMark : t.marks.getLsbD 3 = s.marks.getLsbD 3

/-- What an event in which the link has stalled leaves: it is HALTED with its enable kept and its store emptied, STALL is counted, LINK and
STALL are raised, and nothing in the part belongs to its tenant (R137, R145, R147). -/
abbrev Stalled (l : Link) (s t : State) : Prop :=
  (t.link l).state = .halted ∧ (t.link l).enable = (s.link l).enable ∧ (t.link l).outbound = [] ∧ (t.link l).sending = none ∧
    t.counters.get (tenantCounterNo .stall l) = min 65535 (s.counters.get (tenantCounterNo .stall l) + 1) ∧
    t.marks.getLsbD 0 = true ∧ t.marks.getLsbD 1 = true ∧ HoldsNothing l t

/-- The slots of a discarded frame are settled: its link is ATTACHED and its balance covers them (R122, R123). -/
def LinkRec.covers (r : LinkRec) (f : RxFrame) : Bool := r.state = .attached && f.slots ≤ r.balance

/-- The state after the frame `f` has been discarded on receipt, with its slots settled or not; credits owed on an empty store are sent in a
CREDIT (R122, R123, R130). -/
def State.discarded (s : State) (l : Link) (f : RxFrame) (settled : Bool) : State :=
  { s with
    links := vmod s.links l (fun r =>
      if settled then
        ({ r with partialFrame := [], balance := r.balance - f.slots }).after
          (if r.outbound = [] then [.credit] else []) f.slots
      else { r with partialFrame := [] })
    work := EventWork.none }

/-- The session after the claim of `k` has left the table (R53). -/
def Session.releasedBy (k : RequestName) (y : Session) : Session :=
  match y.state with
  | .reclaiming d (some c) => if c = k then { y with state := .reclaiming d none } else y
  | _ => y

/-- The session after these claims have left the table (R53). -/
def Session.unreferenced (ks : List Claim) (y : Session) : Session := ks.foldl (fun y k => y.releasedBy k.claimant) y

/-- The sector after the earmarks of these claims of it have been given up to the pool (R7, R93). -/
def PoolSector.givenBack (p : PoolSector) (ks : List Claim) : PoolSector :=
  p.after (fun u => if ks.any (fun k => u ∈ k.earmarked) then p.returned u else p.positions.get u)

/-- The Tag Table with the tags of these entries free (R134). -/
def LinkRec.untagged (r : LinkRec) (l : Link) (es : List WaitEntry) : Vector Bool 256 :=
  Vector.ofFn (fun g : Fin 256 => r.tags.get g && !es.any (fun e => e.tenant = l ∧ tagIndex e.tag = g))

/-- The answers of this outcome to the tenant's entries among these, in their order (R36). -/
def answersTo (l : Link) (o : ReplyOutcome) (es : List WaitEntry) : List OutFrame :=
  (es.filter (fun e => e.tenant = l)).map (fun e => .reply e.tag e.cls.byte o)

/-- The wait entry stands in the list between these others, and its name is its own (R61). -/
abbrev StandsIn (before : List WaitEntry) (e : WaitEntry) (after : List WaitEntry) (s : State) : Prop :=
  s.waitList = before ++ e :: after ∧ ∀ d ∈ before ++ after, d.name ≠ e.name

/-- A transmission that begins returns the value of its code: the largest that does not exceed what is owed (R129). -/
abbrev Returns (code : Fin 8) (r r' : LinkRec) : Prop :=
  returnValue code ≤ r.owed ∧ (∀ d, returnValue d ≤ r.owed → returnValue d ≤ returnValue code) ∧
    r'.owed = r.owed - returnValue code ∧ r'.balance = r.balance + returnValue code

/-- These frames and then the FRACTION of the sector queued on an ATTACHED link, the FRACTION in place of one not yet sent or behind every
frame (R110). -/
def LinkRec.published (r : LinkRec) (frames : List OutFrame) (sec : Sector) (g : Figures) : LinkRec :=
  let sent := if r.sending.isSome then 1 else 0
  if r.state != .attached then r
  else if (r.outbound.drop sent).any (OutFrame.isFractionOf sec) then
    { r with outbound := r.outbound.take sent ++
        (r.outbound.drop sent).map (fun x => if x.isFractionOf sec then .fraction sec g else x) ++ frames }
  else r.after (frames ++ [.fraction sec g]) 0

/-- The sector with its pending settings applied: the positions from the old capacity up to the new become FREE where RETIRED, and those at
or above the new become RETIRED where FREE (R13 to R16). -/
def PoolSector.applied (p : PoolSector) : PoolSector :=
  { p with
    effective := p.pending
    positions := Vector.ofFn (fun u : UnitNo =>
      match p.positions.get u with
      | .retired => if p.effective.capacity ≤ u.val ∧ u.val < p.pending.capacity then .free else .retired
      | .free => if p.pending.capacity ≤ u.val then .retired else .free
      | x => x) }

/-- The application to the sector `p` of settings that lower its capacity, or leave it at 0, leaves in `q` a HELD or EARMARKED position at or
above the new capacity (R15, R16; log entries 15 and 16). -/
def PoolSector.leftOver (p q : PoolSector) : Bool :=
  (p.pending.capacity = 0 || p.pending.capacity < p.effective.capacity) &&
    (List.finRange 64).any (fun u =>
      p.pending.capacity ≤ u.val && ((q.positions.get u).isHeld || (q.positions.get u).isEarmarked))

/-- The entry is refused when the sector's pending settings are applied: all of its entries at a closure, and at a cut those whose units
exceed the new capacity (R15, R16). -/
def refusedBy (sec : Sector) (s : State) (e : WaitEntry) : Bool :=
  let p := s.sector sec
  e.sector = sec &&
    (p.pending.capacity = 0 || p.pending.capacity < p.effective.capacity && p.pending.capacity < e.units)

/-! ### Units for a claim, and a freed claim slot -/

/-- The link `m` after an event that took the frame `f` of link `l` and queued these frames (R128, R136). -/
def State.linkAfter (s : State) (l : Link) (x : Lane) (f : RxFrame) (frames : Link → List OutFrame) (m : Link) : LinkRec :=
  if m = l then ((s.link m).taken x).after (frames m) f.slots else (s.link m).after (frames m) 0

/-- The list holds the `n` lowest-numbered FREE positions of the sector, ascending (R3, R4). -/
abbrev LowestUnits (us : List UnitNo) (n : Nat) (p : PoolSector) : Prop :=
  us.length = n ∧ us.Pairwise (· < ·) ∧ (∀ u ∈ us, p.positions.get u = .free) ∧
    ∀ u, p.positions.get u = .free → u ∉ us → ∀ v ∈ us, v < u

/-- The QUEUED entries of the sector in the order wait service looks at them: all EMERGENCY, then all RESPONDER, all STANDARD and all BULK,
each oldest first (R73). -/
def waitingFor (sec : Sector) (s : State) : List WaitEntry :=
  [Cls.emergency, .responder, .standard, .bulk].flatMap (fun c =>
    s.waitList.filter (fun e => e.cls = c ∧ e.sector = sec ∧ e.state = .queued))

/-- The entries of the list that wait service grants, in its order, from a free count, the holdings of the tenants in the sector and their
caps: an entry that passes its room test is granted and lowers what the next find, one that fails by its cap alone is passed over, and one
that fails by units stops the scan (R26, R73, R74). -/
def grantedInTurn (p : PoolSector) (cap : Tenant → Nat) : Nat → (Tenant → Nat) → List WaitEntry → List WaitEntry
  | _, _, [] => []
  | free, held, e :: es =>
    let left := match e.cls with
      | .emergency => free
      | .responder => free - p.effective.emergencyReserve
      | .standard | .bulk => free - p.effective.emergencyReserve - p.effective.responderReserve
    if left < e.units then []
    else if e.cls.counted && cap e.tenant < held e.tenant + e.units then grantedInTurn p cap free held es
    else e :: grantedInTurn p cap (free - e.units)
      (fun t => if e.cls.counted && t = e.tenant then held t + e.units else held t) es

/-- The records are the lowest-numbered ones not in use, ascending (R41). -/
abbrev LowestRecords (js : List RecordIndex) (s : State) : Prop :=
  js.Pairwise (· < ·) ∧ (∀ j ∈ js, s.session? j = none) ∧ ∀ m, s.session? m = none → m ∉ js → ∀ j ∈ js, j < m

/-- What the end of the sector's window leaves, from `s` to `t`, whatever its service run has granted: these frames and the FRACTION on every
ATTACHED link, the entries `gone` out of the list with their tags free, CAPACITY where the application left positions over and METER raised,
the next window begun where this one ended, and no other sector or meter touched (R13, R15, R103, R110; log entries 3, 15 and 16). -/
abbrev WindowClosed (sec : Sector) (start : Nat) (frames : Link → List OutFrame) (gone : List WaitEntry) (s t : State) : Prop :=
  (∀ l, t.link l = { ((s.link l).published (frames l) sec
      ⟨(t.sector sec).freeCount, (t.meter sec).ratio, (t.meter sec).fractions⟩) with tags := (s.link l).untagged l gone }) ∧
    t.waitList = s.waitList.filter (fun e => e.name ∉ gone.map WaitEntry.name) ∧
    t.marks = (s.marks ||| (if (s.sector sec).leftOver (s.sector sec).applied then 128#9 else 0#9)) ||| 256#9 ∧
    (∀ i, i ≠ sec → t.sector i = s.sector i) ∧
    (t.meter sec).state = .counting (start + (s.meter sec).length * 10) ∧ (∀ i, i ≠ sec → t.meter i = s.meter i) ∧
    t = { s with
      sectors := t.sectors, meters := t.meters, links := t.links, marks := t.marks, waitList := t.waitList
      claims := t.claims, sessions := t.sessions, counters := t.counters, work := EventWork.none }

/-- What the making of a claim for the entry changes, from `s` to `t`: the claim is the youngest of the table, the usable free units are
EARMARKED, the victims RECLAIMING and counted (R82 to R86). -/
abbrev ClaimMade (e : WaitEntry) (s t : State) : Prop :=
  let vs := chooseVictims e s
  let us := (s.sector e.sector).freeList.take ((s.sector e.sector).usable e.cls)
  t.claims = s.claims ++
      [⟨e.name, e.cls, e.sector, e.units, us, vs.map (fun v => ⟨v.1, (s.record v.1).generation⟩)⟩] ∧
    (∀ u, (t.sector e.sector).positions.get u =
      if u ∈ us then .earmarked e.name else (s.sector e.sector).positions.get u) ∧
    (t.sector e.sector).holdings = (s.sector e.sector).holdings ∧
    (t.sector e.sector).effective = (s.sector e.sector).effective ∧
    (t.sector e.sector).pending = (s.sector e.sector).pending ∧ (∀ i, i ≠ e.sector → t.sector i = s.sector i) ∧
    (∀ v ∈ vs, t.record v.1 = ⟨(s.record v.1).generation,
      some { v.2 with state := .reclaiming (s.timeBase + s.policy.globals.reclaimLimit) (some e.name) }⟩) ∧
    (∀ i, (∀ v ∈ vs, v.1 ≠ i) → t.record i = s.record i) ∧
    t.counters = (vs.foldl (fun s v => countClass .victim v.2.cls s) s).counters

/-- The VACATE notices a claim for the entry queues on the link, in victim order (R86). -/
def vacatesTo (m : Link) (e : WaitEntry) (s : State) : List OutFrame :=
  ((chooseVictims e s).filter (fun v => v.2.tenant = m)).map (fun v => .vacate ⟨v.1, (s.record v.1).generation⟩)

/-- The entries with the claim-pending mark in the order of offering (R67). -/
def markedEntries (s : State) : List WaitEntry :=
  s.waitList.filter (fun e => e.claimPending && e.cls == .emergency) ++
    s.waitList.filter (fun e => e.claimPending && e.cls == .responder)

/-- The slot the command frees is offered to the marked entries in turn (R67), said by comparison with the state `t` that the command answers
when no entry is marked: the entries for which no claim is made lose their mark; the first for which one is made is CLAIMING without its
mark, its victims' tenants are sent VACATE, and the entries behind it keep theirs. -/
abbrev SlotOffered (c : Instr) (s : State) : Prop :=
  ∀ t, exec c { s with waitList := s.waitList.map (fun e => { e with claimPending := false }) } = .next t →
    ((∀ e ∈ markedEntries s, NoClaimMade e t) → exec c s = .next t) ∧
    ∀ before e after, markedEntries s = before ++ e :: after → (∀ d ∈ before, NoClaimMade d t) →
      roomFor e.tenant e.cls e.sector e.units t = false →
      e.units - (t.sector e.sector).usable e.cls ≤ unitsOf (chooseVictims e t) →
      (∀ v ∈ chooseVictims e t, Roomy v.2.tenant 8 t) →
      ∃ t', exec c s = .next t' ∧ ClaimMade e t t' ∧
        t'.waitList = t.waitList.map (fun d =>
          if d.name = e.name then { d with state := .claiming }
          else if d.name ∈ after.map WaitEntry.name then { d with claimPending := true }
          else d) ∧
        (∀ m, t'.link m = (t.link m).after (vacatesTo m e t) 0) ∧
        t' = { t with
          claims := t'.claims, waitList := t'.waitList, sectors := t'.sectors, sessions := t'.sessions
          counters := t'.counters, links := t'.links }

/-! ### Field bytes read through the window -/

/-- Byte `n` of the selected entry as the table of R160 lays it out: the pending copy of a Sector entry, the committed entries of tables 1
to 4, and the live figures of table 5 (R158, R160, R165). -/
def fieldByte (x : Selection) (n : Nat) (s : State) : Byte :=
  let two := fun (v : Nat) => [v / 256, v]
  let flag := fun (b : Bool) => if b then 1 else 0
  let eight : Sector := ⟨x.entry.val % 8, Nat.mod_lt _ (by decide)⟩
  let four : Fin 4 := ⟨x.entry.val % 4, Nat.mod_lt _ (by decide)⟩
  let bytes : List Nat := match x.table with
    | 0 =>
      let p := (s.sector eight).pending
      [p.capacity, p.emergencyReserve, p.responderReserve] ++ two p.target ++ [p.window, p.weight, flag p.adaptive]
    | 1 =>
      let c := s.policy.classes.get four
      two c.onset ++ two c.floor ++ two c.waitLimit ++ [c.retryAllowance] ++ two c.holdLimit ++ [flag c.queueAllowed]
    | 2 =>
      let t := s.policy.tenants.get four
      [t.allotment, t.cap]
    | 3 => match s.policy.beams.get x.entry with
      | some sec => [sec.val]
      | none => [0xFF]
    | 4 =>
      let g := s.policy.globals
      two g.offerLimit ++ two g.reclaimLimit ++ two g.escalationDelay ++ [g.ordinaryShare]
    | 5 =>
      let p := s.sector eight
      let m := s.meter eight
      let count := fun (f : Position → Bool) => (List.finRange 64).countP (fun u => f (p.positions.get u))
      [p.effective.capacity, count (· = .free), count Position.isHeld, count Position.isEarmarked, count (· = .retired)]
        ++ two m.count ++ [m.length] ++ two m.ratio ++ two (m.fractions.get 0) ++ two (m.fractions.get 1)
        ++ two (m.fractions.get 2) ++ two (m.fractions.get 3)
    | _ => []
  BitVec.ofNat 8 (bytes.getD n 0)

/-! ### Invariants -/

/-- The two copies of a sector's settings lie in their ranges (01, section 1.6; R12). -/
abbrev Settings.inRange (p : Settings) : Prop :=
  p.capacity ≤ 64 ∧ p.emergencyReserve ≤ p.capacity ∧ p.responderReserve ≤ p.capacity - p.emergencyReserve ∧
    1 ≤ p.target ∧ p.target ≤ 65535 ∧ 5 ≤ p.window ∧ p.window ≤ 255 ∧ 1 ≤ p.weight ∧ p.weight ≤ 16

/-- The sector settings lie in their ranges, and the larger copies of the capacities sum to at most 384 (R12). -/
abbrev SettingsInv (s : State) : Prop :=
  (∀ i, (s.sector i).effective.inRange ∧ (s.sector i).pending.inRange) ∧
    ((List.finRange 8).map (fun i => max (s.sector i).pending.capacity (s.sector i).effective.capacity)).sum ≤ 384

/-- The policy tables hold clamped entries, with the EMERGENCY entry's fixed fields (R162, R163, R164). -/
abbrev PolicyInv (s : State) : Prop :=
  (∀ c, (s.policy.classes.get c).onset ≤ 4095 ∧ (s.policy.classes.get c).floor ≤ 256 ∧
    (s.policy.classes.get c).retryAllowance ≤ 4 ∧ (s.policy.classes.get c).waitLimit ≤ 65535 ∧
    (s.policy.classes.get c).holdLimit ≤ 65535) ∧
  ((s.classPolicy .emergency).onset = 4095 ∧ (s.classPolicy .emergency).floor = 256 ∧
    (s.classPolicy .emergency).waitLimit = 0 ∧ (s.classPolicy .emergency).queueAllowed = true) ∧
  (∀ t, (s.tenantPolicy t).cap ≤ 64) ∧
  100 ≤ s.policy.globals.offerLimit ∧ s.policy.globals.offerLimit ≤ 10000 ∧
  100 ≤ s.policy.globals.reclaimLimit ∧ s.policy.globals.reclaimLimit ≤ 10000 ∧
  500 ≤ s.policy.globals.escalationDelay ∧ s.policy.globals.escalationDelay ≤ 60000 ∧
  1 ≤ s.policy.globals.ordinaryShare ∧ s.policy.globals.ordinaryShare ≤ 32

/-- The figures of the meters lie in their ranges: window length (R101), C, A and L (R108), fractions (R107). -/
abbrev MeterInv (s : State) : Prop :=
  ∀ i, 5 ≤ (s.meter i).length ∧ (s.meter i).length ≤ 255 ∧ (s.meter i).count ≤ 4095 ∧
    (s.meter i).smoothed ≤ 1048560 ∧ (s.meter i).ratio ≤ 4095 ∧ (s.meter i).fractions.get 0 = 256 ∧
    ∀ c, (s.meter i).fractions.get c ≤ 256

/-- The figures the part computes and the tables it computes them from. -/
abbrev FiguresInv (s : State) : Prop := SettingsInv s ∧ PolicyInv s ∧ MeterInv s

/-- No position below its sector's effective capacity is RETIRED, and none at or above it is FREE (R2). -/
abbrev PoolInv (s : State) : Prop :=
  ∀ i, ∀ u : UnitNo,
    (u.val < (s.sector i).effective.capacity → (s.sector i).positions.get u ≠ .retired) ∧
    ((s.sector i).effective.capacity ≤ u.val → (s.sector i).positions.get u ≠ .free)

/-- The handle a HELD position records (R1). -/
def Position.holder : Position → Option Handle
  | .held h => some h
  | _ => none

/-- The claim an EARMARKED position records, by its claimant's name (R1). -/
def Position.claim : Position → Option RequestName
  | .earmarked n => some n
  | _ => none

/-- What a record counts toward the tenant's holding in the sector: the units of a STANDARD or BULK session of the tenant there, in any
state (R9). -/
def unitsCounted (i : Sector) (t : Tenant) : Option Session → Nat
  | some y => if y.sector = i ∧ y.tenant = t ∧ y.cls.counted = true then y.units.length else 0
  | none => 0

/-- Positions, records, claims and holdings account for one another: a HELD position belongs to the record in use whose handle it records
and which lists it, and an EARMARKED one to the claim that lists it (R1); a record in use lists at least one unit, in ascending order
without duplicates, each HELD by it, and its missed count is within its allowance (R40, R43); a claim lists the positions EARMARKED for it,
ascending, and fewer than its need (R79, R91); a holding is the sum of the units that count toward it (R9); and an entry waits for at least
one unit (R19, R60). -/
abbrev AccountsInv (s : State) : Prop :=
  (∀ i, ∀ u : UnitNo, ∀ h ∈ ((s.sector i).positions.get u).holder,
    h.generation = (s.record h.index).generation ∧ ∃ y ∈ s.session? h.index, y.sector = i ∧ u ∈ y.units) ∧
  (∀ i, ∀ y ∈ s.session? i, y.units ≠ [] ∧ y.units.Pairwise (· < ·) ∧ y.missedCount ≤ y.retryAllowance ∧
    ∀ u ∈ y.units, (s.sector y.sector).positions.get u = .held ⟨i, (s.record i).generation⟩) ∧
  (∀ i, ∀ u : UnitNo, ∀ n ∈ ((s.sector i).positions.get u).claim,
    ∃ c ∈ s.claims, c.claimant = n ∧ c.sector = i ∧ u ∈ c.earmarked) ∧
  (∀ c ∈ s.claims, c.earmarked.Pairwise (· < ·) ∧ c.earmarked.length < c.need ∧
    ∀ u ∈ c.earmarked, (s.sector c.sector).positions.get u = .earmarked c.claimant) ∧
  (∀ i t, (s.sector i).holdings.get t = ((List.finRange 512).map (fun r => unitsCounted i t (s.session? r))).sum) ∧
  ∀ e ∈ s.waitList, 1 ≤ e.units

/-- What holds of a link whenever an event is complete: the account of an ATTACHED tenant sums to its allotment, and a tenant that is
not ATTACHED has none (R127, R139); stores (R136); the state agrees with the lock input and the enable (R139, R144), the lock input
apart while the reset input is low. -/
abbrev LinkRec.sound (low : Bool) (r : LinkRec) : Prop :=
  (r.state = .attached → r.occupancy + r.owed + r.balance = r.allotment) ∧
  (r.state ≠ .attached → r.priorityLane = [] ∧ r.ordinaryLane = [] ∧ r.allotment = 0 ∧ r.balance = 0 ∧ r.owed = 0 ∧
    ∀ g, r.tags.get g = false) ∧
  (r.state = .absent ∨ r.state = .halted → r.outbound = []) ∧
  (r.outbound = [] → r.sending = none) ∧
  r.outbound.length ≤ 128 ∧
  (r.enable = false → r.state = .halted) ∧
  (low = false → (r.state = .absent → r.lock = false) ∧ (r.state = .present ∨ r.state = .attached → r.lock = true) ∧
    r.mayBegin = false)

/-- Every link is sound, and the allotments, each counted at the larger of the table's and the one in use, are at least 4 and sum to at
most 192 (R126, R163). -/
abbrev LinkInv (s : State) : Prop :=
  (∀ l, (s.link l).sound s.resetLow) ∧
  (∀ t, 4 ≤ (s.tenantPolicy t).allotment) ∧
  ((List.finRange 4).map (fun l => max (s.tenantPolicy l).allotment (s.link l).allotment)).sum ≤ 192

/-- The collections and counts stay within their sizes: Wait List (R61), Claim Table and victims (R79), counters (R170), Time Base (R174),
consecutive-priority count (R132). -/
abbrev SizeInv (s : State) : Prop :=
  s.waitList.length ≤ 256 ∧ s.claims.length ≤ 16 ∧ (∀ c ∈ s.claims, c.victims.length ≤ 8) ∧
    (∀ n, s.counters.get n ≤ 65535) ∧ s.timeBase < 2 ^ 40 ∧ s.arbiter.priorityCount ≤ 32

/-- Entries, tags, claims and sessions agree: a tenant and a tag name one entry (R61), the outstanding tags are those of the entries (R134),
each claim has one CLAIMING entry of its sector, class and units and each CLAIMING entry one claim (R62, R80), only EMERGENCY and RESPONDER entries claim
or carry the mark, an EMERGENCY entry has no wait deadline, as its class has no wait limit (R35, R162), and it alone an escalation deadline (R64),
a session's claim reference names a claim of its sector that lists it as a victim (R80), and nothing belongs to a tenant that is not
ATTACHED (R147). -/
abbrev BooksInv (s : State) : Prop :=
  (s.waitList.map WaitEntry.name).Nodup ∧
  (∀ t : Tenant, ∀ g : Fin 256,
    (s.link t).tags.get g = true ↔ ∃ e ∈ s.waitList, e.tenant = t ∧ e.tag.toNat = g.val) ∧
  (s.claims.map Claim.claimant).Nodup ∧
  (∀ c ∈ s.claims, ∃ e ∈ s.waitList,
    e.name = c.claimant ∧ e.state = .claiming ∧ e.sector = c.sector ∧ e.cls = c.cls ∧ e.units = c.need) ∧
  (∀ e ∈ s.waitList, e.state = .claiming → ∃ c ∈ s.claims, c.claimant = e.name) ∧
  (∀ e ∈ s.waitList, (e.state = .claiming ∨ e.claimPending = true → e.cls.counted = false) ∧
    (e.claimPending = true → e.state = .queued) ∧ (e.cls = .emergency → e.waitDeadline = none) ∧
    (e.cls ≠ .emergency → e.escalationDeadline = none) ∧ (s.link e.tenant).state = .attached) ∧
  (∀ i, ∀ y ∈ s.session? i, (s.link y.tenant).state = .attached ∧ ∀ n, y.claim? = some n →
    ∃ c ∈ s.claims, c.claimant = n ∧ c.sector = y.sector ∧ ⟨i, (s.record i).generation⟩ ∈ c.victims) ∧
  (s.classPolicy .emergency).waitLimit = 0

/-- No EMERGENCY session is a victim, and the VICTIM counter of EMERGENCY, number 16, stays 0 (R80, R170). -/
abbrev VictimInv (s : State) : Prop :=
  (∀ i, ∀ y ∈ s.session? i, y.isReclaiming = true → y.cls ≠ .emergency) ∧ s.counters.get 16 = 0

/-- The meters count exactly while RUN is ACTIVE, and in STANDBY nothing waits and no claim gathers (R70, R100). -/
abbrev RunInv (s : State) : Prop :=
  (∀ i, (s.meter i).state = .stopped ↔ s.run = .standby) ∧ (s.run = .standby → s.waitList = [] ∧ s.claims = [])

end Sys2Proof.Machine
end

