-- ==== Sys2Proof/WellFormed.lean ====
section
/-! DEFINITION. Which commands the surroundings may send. Link, sector, record and tag operands are of types that hold
no other value, so one check is left: the board must not apply a reset pulse shorter than 10 µs (R166). -/

namespace Sys2Proof

/-- The command is one the manual allows the surroundings to send (R166). -/
def Instr.wellFormed : Instr → Bool
  | .fullReset lowMicroseconds _ _ => decide (Config.resetPulseMin ≤ lowMicroseconds)
  | .resetAssert | .timeBaseTick => true
  | .lockRise _ | .lockFall _ | .frameReceipt _ _ | .join _ _ _ => true
  | .ask | .taken | .missed | .endSession | .yielded | .drop | .look | .leave => true
  | .offerExpiry _ | .holdExpiry _ | .reclaimExpiry _ | .waitExpiry _ _ | .escalation _ _ => true
  | .windowEnd _ | .transmissionEnd _ => true
  | .registerPointerWrite _ _ | .registerWrite _ | .registerRead _ _ => true
  | .transitionToActive _ | .transitionToStandby _ | .clearPool _ _ | .tenantEnable _ _ => true
  | .eventSummaryRead _ _ _ | .eventMaskWrite _ _ _ | .counterDataLowRead _ _ | .faultRecordReasonRead _ _ => true
  | .windowSelectRead _ _ | .windowSelectWrite _ _ | .windowDataWrite _ _ => true
  | .windowDataRead _ _ | .windowStatusRead _ _ => true

end Sys2Proof
end

