-- ==== Sys2Proof/Certificates/Slice0/Obligations.lean ====
section
/-! DEFINITION. The statements for the provers. -/

open Sys2Proof Sys2Proof.Machine

/-! ### The queue, the stops and the reset input -/

/-- A step takes the command at the front of the queue and carries it out with the queue's rest; on an empty queue the block
idles (log entry 1). -/
def Obligations.StepTakesFront : Prop :=
  ∀ (c : Instr) (rest : List Instr) (s : State),
    (s.pending = c :: rest → step s = exec c { s with pending := rest }) ∧ (s.pending = [] → step s = .next s)

/-- Every command answers a next state, but for a reset pulse shorter than 10 µs, whose effect is not defined (R166). That the model stops there by a fault is
its choice, log entry 9, and that a command whose event does not occur answers the state as it was is its choice, log entry 2. -/
def Obligations.OnlyShortPulseStops : Prop :=
  ∀ (c : Instr) (s : State),
    (Instr.wellFormed c = true → ∃ t, exec c s = .next t) ∧
    (Instr.wellFormed c = false → exec c s = .fault .resetPulseTooShort)

/-- Which commands change what over the whole part: the queue by none; the Time Base by the tick and the reset (R174); RUN, the tables, the pending
settings and the mask by the rows of the Supervisor Port and the reset; the port by these and the assertion of the reset; the effective settings by a window
end, a bus write and the reset (R13). -/
def Obligations.WholePartFrames : Prop :=
  ∀ (c : Instr) (s t : State), exec c s = .next t →
    t.pending = s.pending ∧
    (c ≠ .timeBaseTick → (∀ us a1 a0, c ≠ .fullReset us a1 a0) → t.timeBase = s.timeBase) ∧
    (c.busRow = false → (∀ us a1 a0, c ≠ .fullReset us a1 a0) →
      t.run = s.run ∧ t.policy = s.policy ∧ t.mask = s.mask ∧ (∀ i, (t.sector i).pending = (s.sector i).pending) ∧
        (c ≠ .resetAssert → t.port = s.port) ∧
        ((∀ i, c ≠ .windowEnd i) → ∀ i, (t.sector i).effective = (s.sector i).effective))

/-- RESET_ASSERT cuts off every transmission, abandons the transaction and releases the attention output; while the reset input is low a row of the Supervisor Port is not acknowledged and does nothing else, and every other command but those
of the reset and the lock inputs does nothing (R150, R166; what the other commands do is the model's choice, log entry 10; that the cut is at the fall of the input is log entry 22). -/
def Obligations.ResetLowHolds : Prop :=
  (∀ s : State, ∃ t, exec .resetAssert s = .next t ∧ t.resetLow = true ∧ (∀ l, t.link l = { s.link l with sending := none }) ∧
    t.port = { s.port with transaction := none, acknowledged := false } ∧
    t = { s with resetLow := true, links := t.links, port := t.port }) ∧
  ∀ (c : Instr) (s : State), s.resetLow = true →
    attentionLow s = false ∧
    (c.busRow = true → exec c s = .next { s with port := { s.port with acknowledged := false } }) ∧
    (c.busRow = false → (∀ us a1 a0, c ≠ .fullReset us a1 a0) → c ≠ .resetAssert → (∀ l, c ≠ .lockRise l) →
      (∀ l, c ≠ .lockFall l) → exec c s = .next s)

/-- FULL_RESET restores the values after full reset (R17, R59, R71, R79, R114, R138, R139, R150 to R152, R156, R162 to R164, R168 to R173). That it may come without RESET_ASSERT
before it is the model's choice, log entry 11. -/
def Obligations.FullResetRestores : Prop :=
  ∀ (us : Nat) (a1 a0 : Bool) (s : State), 10 ≤ us → ∃ t, exec (.fullReset us a1 a0) s = .next t ∧
    t.pending = s.pending ∧ t.resetLow = false ∧ t.timeBase = 0 ∧ t.run = .standby ∧
    (∀ i, (t.sector i).effective = ⟨0, 0, 0, 1000, 50, 4, false⟩ ∧ (t.sector i).pending = ⟨0, 0, 0, 1000, 50, 4, false⟩ ∧
      (∀ u, (t.sector i).positions.get u = .retired) ∧ ∀ m, (t.sector i).holdings.get m = 0) ∧
    (∀ i, t.meter i = ⟨.stopped, 50, 0, 0, 0, #v[256, 256, 256, 256]⟩) ∧
    (∀ i, t.record i = ⟨0, none⟩) ∧ t.waitList = [] ∧ t.claims = [] ∧
    (∀ l, (t.link l).state = (if (s.link l).lock then .present else .absent) ∧ (t.link l).lock = (s.link l).lock ∧
      (t.link l).enable = true ∧ (t.link l).priorityLane = [] ∧ (t.link l).ordinaryLane = [] ∧ (t.link l).allotment = 0 ∧
      (t.link l).balance = 0 ∧ (t.link l).owed = 0 ∧ (∀ g, (t.link l).tags.get g = false) ∧ (t.link l).outbound = [] ∧
      (t.link l).sending = none ∧ (t.link l).partialFrame = []) ∧
    t.arbiter = ⟨3, 0⟩ ∧
    t.policy.classes = #v[⟨4095, 256, 0, 4, 0, true⟩, ⟨1024, 128, 20000, 2, 0, true⟩, ⟨256, 32, 8000, 0, 0, true⟩,
      ⟨192, 0, 0, 0, 120, false⟩] ∧
    (∀ m, t.policy.tenants.get m = ⟨48, 64⟩) ∧
    (∀ b : Fin 32, ∃ i, t.policy.beams.get b = some i ∧ i.val = b.val / 4) ∧
    t.policy.globals = ⟨4000, 1500, 3000, 8⟩ ∧
    t.port.adr1 = a1 ∧ t.port.adr0 = a0 ∧ t.port.transaction = none ∧ t.port.pointer = 0 ∧ t.port.counterSelect = 0 ∧
    t.port.latch = 0 ∧ t.port.window.mode = .read ∧ t.port.window.readSelect = ⟨0, 0⟩ ∧
    t.port.window.writeSelect = ⟨0, 0⟩ ∧ t.port.window.pointer = 0 ∧ t.port.window.staging = [] ∧
    t.port.window.ignored = false ∧
    t.marks = 0 ∧ t.mask = 0x0FF ∧ (∀ n, t.counters.get n = 0) ∧ t.fault = ⟨none, false⟩

/-- TIME_BASE_TICK: the Time Base advances by one and stops at its largest 40-bit value (R174). -/
def Obligations.TickAdvances : Prop :=
  ∀ s : State, Ready s → s.timeBase < 2 ^ 40 →
    exec .timeBaseTick s = .next { s with
      timeBase := if s.timeBase = 2 ^ 40 - 1 then s.timeBase else s.timeBase + 1, work := EventWork.none }

/-! ### Presence -/

/-- LOCK_RISE and LOCK_FALL on a link that is not ATTACHED: ABSENT becomes PRESENT, PRESENT becomes ABSENT with its store emptied and a partly collected
frame abandoned, HALTED only records the level, and LINK is raised when the state changes (R121, R136, R139, R140). A rise of an input already high and a fall of
one already low are no change and leave the state as it is, which is log entry 2. -/
def Obligations.LockChangesPresence : Prop :=
  ∀ (l : Link) (s : State), Ready s →
    ((s.link l).lock = false → (s.link l).state = .absent ∨ (s.link l).state = .halted → (s.link l).outbound = [] →
      exec (.lockRise l) s = .next { s with
        links := vmod s.links l (fun r =>
          { r with lock := true, state := if r.state = .absent then .present else r.state })
        marks := if (s.link l).state = .absent then s.marks ||| 1#9 else s.marks
        work := EventWork.none }) ∧
    ((s.link l).lock = true → (s.link l).state = .present ∨ (s.link l).state = .halted →
      exec (.lockFall l) s = .next { s with
        links := vmod s.links l (fun r =>
          { r with
            lock := false, state := if r.state = .present then .absent else r.state
            partialFrame := [], outbound := [], sending := none })
        marks := if (s.link l).state = .present then s.marks ||| 1#9 else s.marks
        work := EventWork.none }) ∧
    ((s.link l).lock = true → exec (.lockRise l) s = .next s) ∧
    ((s.link l).lock = false → exec (.lockFall l) s = .next s)

/-- LOCK_FALL on an ATTACHED link makes it ABSENT, and TENANT_ENABLE with its enable clear makes it HALTED; its store is emptied, LINK is raised, and the release sequence takes back everything its tenant held (R140, R144, R145, R147). The row is a whole access (log entry 7). -/
def Obligations.DepartureTakesAllBack : Prop :=
  ∀ (l : Link) (s : State), BooksInv s → (s.link l).state = .attached →
    (s.resetLow = false → (s.link l).lock = true →
      ∃ t, exec (.lockFall l) s = .next t ∧ (t.link l).state = .absent ∧ (t.link l).lock = false ∧
        (t.link l).outbound = [] ∧ (t.link l).sending = none ∧ (t.link l).partialFrame = [] ∧ t.marks.getLsbD 0 = true ∧
        HoldsNothing l t ∧ DepartureKeeps s t ∧ t.port = s.port) ∧
    (∀ (device : BusAddress) (v : Byte), Addressed device s → v.getLsbD l.val = false →
      ∃ t, exec (.tenantEnable device v) s = .next t ∧ (t.link l).state = .halted ∧ (t.link l).enable = false ∧
        (t.link l).outbound = [] ∧ (t.link l).sending = none ∧ t.marks.getLsbD 0 = true ∧ HoldsNothing l t ∧
        DepartureKeeps s t ∧ t.port = { s.port with transaction := some .write, acknowledged := true, pointer := 0x02 })

/-- JOIN: a PRESENT link becomes ATTACHED with a fresh account of its allotment and is answered ACCEPTED; an ATTACHED link is answered ACCEPTED again and
keeps its account; in HALTED the JOIN is discarded (R141, R142). An idle link begins to send when the event is complete (R136; log entry 22). The row JOIN, which leaves a partly collected frame alone, is the choice of log entry 6. -/
def Obligations.JoinAnswered : Prop :=
  ∀ (l : Link) (tag : Tag) (cls : Byte) (s : State), Ready s → (s.link l).lock = true →
    ((s.link l).state = .present → (s.link l).outbound.length < 128 →
      exec (.join l tag cls) s = .next { s with
        links := vmod s.links l (fun r =>
          ({ r with
            state := .attached
            allotment := (s.tenantPolicy l).allotment
            balance := (s.tenantPolicy l).allotment
            owed := 0
            tags := Vector.replicate 256 false }).after [.reply tag cls .accepted] 0)
        marks := s.marks ||| 1#9
        work := EventWork.none }) ∧
    ((s.link l).state = .attached → (s.link l).outbound.length < 128 →
      exec (.join l tag cls) s = .next (s.queued l [.reply tag cls .accepted])) ∧
    ((s.link l).state = .halted →
      exec (.join l tag cls) s = .next { (countTenant .protocol l s) with
        fault := s.fault.offer ⟨l, 0x01, .notAttached⟩, work := EventWork.none })

/-! ### Receipt and flow control -/

/-- FRAME_RECEIPT of a slot that is not its frame's last only collects it; the receipt of a good JOIN of length 1 is the row JOIN (R121, R123). One slot a command, and the row JOIN beside it, are the choices of log entries 5 and 6. -/
def Obligations.ReceiptCollectsAndJoins : Prop :=
  ∀ (l : Link) (slot : Slot) (s : State), Ready s → (s.link l).lock = true →
    (let f : RxFrame := (s.link l).partialFrame ++ slot.toList
     (f.slots < slotsToCollect f.lengthByte →
       exec (.frameReceipt l slot) s = .next { s with
         links := vmod s.links l (fun r => { r with partialFrame := f }), work := EventWork.none }) ∧
     (slotsToCollect f.lengthByte ≤ f.slots → f.check = .good → f.kind = some .join → f.lengthByte = 1 →
       exec (.frameReceipt l slot) s =
         exec (.join l f.tag f.cls) (s.modLink l (fun r => { r with partialFrame := [] }))))

/-- Frames discarded on receipt: one whose check has failed (CHECK-FAIL and the fault CHECK), a poisoned one (POISONED alone), and a good one of unknown kind, a JOIN of wrong length and one of another kind from a link that is not ATTACHED (PROTOCOL and the
fault KIND, KIND, NOT-ATTACHED); the slots of the first three are settled, unless the kind byte of the first two is JOIN (R122, R123). An idle link begins to send when the event is complete (R136; log entry 22). -/
def Obligations.UnfitFrameDiscarded : Prop :=
  ∀ (l : Link) (slot : Slot) (f : RxFrame) (s : State), Arrives l slot f s →
    let settled := s.discarded l f ((s.link l).covers f && f.kind != some .join)
    (f.check = .failed → exec (.frameReceipt l slot) s = .next { (countTenant .checkFail l settled) with
        fault := s.fault.offer ⟨l, f.kindByte, .check⟩ }) ∧
    (f.check = .poisoned → exec (.frameReceipt l slot) s = .next (countTenant .poisoned l settled)) ∧
    (f.check = .good → f.kind = none → exec (.frameReceipt l slot) s = .next { (countTenant .protocol l settled) with
        fault := s.fault.offer ⟨l, f.kindByte, .kind⟩ }) ∧
    (f.check = .good → f.kind = some .join → f.lengthByte ≠ 1 →
      exec (.frameReceipt l slot) s = .next { (countTenant .protocol l (s.discarded l f false)) with
        fault := s.fault.offer ⟨l, f.kindByte, .kind⟩ }) ∧
    (f.check = .good → f.kind ≠ none → f.kind ≠ some .join → (s.link l).state ≠ .attached →
      exec (.frameReceipt l slot) s = .next { (countTenant .protocol l (s.discarded l f false)) with
        fault := s.fault.offer ⟨l, f.kindByte, .notAttached⟩ })

/-- The credit test of a good frame from an ATTACHED link: more slots than the balance are an overrun and move no credits; otherwise the balance falls and the
frame joins the tail of its kind's lane (R118, R124). Slots come one a command (log entry 5). -/
def Obligations.CreditTestDecides : Prop :=
  ∀ (l : Link) (slot : Slot) (f : RxFrame) (k : FrameKind) (s : State), Arrives l slot f s → f.check = .good →
    f.kind = some k → k ≠ .join → (s.link l).state = .attached →
    ((s.link l).balance < f.slots →
      exec (.frameReceipt l slot) s = .next { (countTenant .overrun l (s.discarded l f false)) with
        marks := s.marks ||| 4#9, fault := s.fault.offer ⟨l, f.kindByte, .overrun⟩ }) ∧
    (f.slots ≤ (s.link l).balance →
      exec (.frameReceipt l slot) s = .next { s with
        links := vmod s.links l (fun r =>
          let r := { r with partialFrame := [], balance := r.balance - f.slots }
          if k = .endSession ∨ k = .yielded ∨ (k = .ask ∧ f.cls.toNat ≤ 1) then
            { r with priorityLane := r.priorityLane ++ [f] }
          else { r with ordinaryLane := r.ordinaryLane ++ [f] })
        work := EventWork.none })

/-- TRANSMISSION_END: the frame sent leaves its place; the next frame of the store, or a CREDIT when credits are owed and the store is empty, begins with the code of the
largest value that does not exceed what is owed, which moves from owed to the balance (R129, R130, R136). The bytes of a frame sent are its kind code, length, tag, class or cause, credit-return code and layout, and then its check, which makes it a good frame (R116, R117, R119, R120); a unit list has at most 8 units
(R19). An idle link begins to send when the event is complete (R136; log entry 22). -/
def Obligations.TransmissionEndGoesOn : Prop :=
  (∀ (l : Link) (g : OutFrame) (rest : List OutFrame) (s : State), Ready s → (s.link l).lock = true →
    (s.link l).state ≠ .halted → (s.link l).sending.isSome = true → (s.link l).outbound = g :: rest →
    ∃ t, exec (.transmissionEnd l) s = .next t ∧ t = { s with links := t.links, work := EventWork.none } ∧
      (∀ m, m ≠ l → t.link m = s.link m) ∧
      (let r := s.link l
       let r' := t.link l
       let next := match rest with
         | [] => if r.state = .attached ∧ 0 < r.owed then some OutFrame.credit else none
         | h :: _ => some h
       match next with
       | none => r' = { r with outbound := [], sending := none }
       | some h => ∃ code, Returns code r r' ∧
           r' = { r with
             outbound := if rest = [] then [h] else rest
             sending := some ⟨code, h.bytes code⟩
             owed := r'.owed
             balance := r'.balance })) ∧
  ∀ (g : OutFrame) (code : Fin 8), (∀ tag cls h sec us, g = .replyGranted tag cls h sec us → us.length ≤ 8) →
    let body := sentBytes g code
    g.bytes code = body ++ [(checkOf body).extractLsb' 8 8, (checkOf body).extractLsb' 0 8] ∧
      (g.bytes code).length = 8 * ((g.bytes code).getD 1 0).toNat ∧ RxFrame.check (g.bytes code) = .good

/-- The arbiter's choice: a lane holding a frame, of an ATTACHED link whose store has 2 free places; an ordinary lane exactly when one is eligible and the ordinary share is
due or no priority lane is; of these the first link after the link last served; and the lane's head (R131, R132). -/
def Obligations.ArbiterChooses : Prop :=
  ∀ s : State,
    let eligible := fun (l : Link) (x : Lane) =>
      (s.link l).lane x ≠ [] ∧ (s.link l).state = .attached ∧ (s.link l).outbound.length + 2 ≤ 128
    (arbiterChoice s = none ↔ ∀ l x, ¬ eligible l x) ∧
    ∀ l x f, arbiterChoice s = some (l, x, f) →
      eligible l x ∧ ((s.link l).lane x).head? = some f ∧
      (x = .ordinary ↔ (∃ m, eligible m .ordinary) ∧
        (s.policy.globals.ordinaryShare ≤ s.arbiter.priorityCount ∨ ∀ m, ¬ eligible m .priority)) ∧
      ∀ m, eligible m x → l - s.arbiter.lastServed - 1 ≤ m - s.arbiter.lastServed - 1

/-- A frame the engine takes whose length byte does not suit its kind is answered REFUSED-INVALID and nothing else is done (R125). An idle link begins to send when the event is complete (R136; log entry 22). -/
def Obligations.WrongLengthRefused : Prop :=
  ∀ (c : Instr) (k : FrameKind) (l : Link) (x : Lane) (f : RxFrame) (s : State), (c, k) ∈ engineRows → Ready s →
    arbiterChoice s = some (l, x, f) → f.kind = some k → (s.link l).lock = true → f.lengthByte.toNat ≠ k.slots →
    exec c s = .next (s.serve l x f [.reply f.tag f.cls .refusedInvalid])

/-! ### ASK -/

/-- ASK before it is counted: REFUSED-NOT-READY in STANDBY; TAG-BUSY when its tag is outstanding; REFUSED-INVALID for a class byte above 3; REFUSED-CLOSED for a beam
without a sector; REFUSED is counted for the class where there is one, but not for TAG-BUSY (R21, R22, R23). An idle link begins to send when the event is complete (R136; log entry 22). -/
def Obligations.AskRefusedUncounted : Prop :=
  ∀ (l : Link) (x : Lane) (f : RxFrame) (s : State), EngineTurn .ask l x f s →
    let answered := fun (o : ReplyOutcome) => s.serve l x f [.reply f.tag f.cls o]
    (s.run = .standby → ∀ c, Cls.ofByte f.cls = some c →
      exec .ask s = .next (countClass .refused c (answered .refusedNotReady))) ∧
    (s.run = .standby → Cls.ofByte f.cls = none → exec .ask s = .next (answered .refusedNotReady)) ∧
    (s.run = .active → (s.link l).tags.get (tagIndex f.tag) = true → exec .ask s = .next (answered .tagBusy)) ∧
    (s.run = .active → (s.link l).tags.get (tagIndex f.tag) = false → Cls.ofByte f.cls = none →
      exec .ask s = .next (answered .refusedInvalid)) ∧
    (s.run = .active → (s.link l).tags.get (tagIndex f.tag) = false → ∀ c, Cls.ofByte f.cls = some c →
      (32 ≤ f.beam.toNat ∨ ∃ b : Fin 32, b.val = f.beam.toNat ∧ s.policy.beams.get b = none) →
      exec .ask s = .next (countClass .refused c (answered .refusedClosed)))

/-- ASK counted and refused: REFUSED-CLOSED in a closed sector, REFUSED-INVALID for more units than the capacity, REFUSED-BUSY when it fails its tests and may not wait, and REFUSED-FULL with FULL raised when it may wait, the Wait List is full and
there is nothing to displace (R24, R25, R26, R27, R30, R33, R34). An idle link begins to send when the event is complete (R136; log entry 22). The order test is that of R27, log entry 28. -/
def Obligations.AskRefusedCounted : Prop :=
  ∀ (l : Link) (x : Lane) (f : RxFrame) (c : Cls) (sec : Sector) (s : State), AskReaches l x f c sec s →
    let answered := fun (o : ReplyOutcome) =>
      countClass .refused c ((s.serve l x f [.reply f.tag f.cls o]).counted c sec)
    let capacity := (s.sector sec).effective.capacity
    (capacity = 0 → exec .ask s = .next (answered .refusedClosed)) ∧
    (0 < capacity → capacity < f.units → exec .ask s = .next (answered .refusedInvalid)) ∧
    (f.units ≤ capacity → (roomFor l c sec f.units s && orderFor c sec s) = false →
      (waitsFor l c sec f.units s = false → exec .ask s = .next (answered .refusedBusy)) ∧
      (waitsFor l c sec f.units s = true → s.waitList.length = 256 →
        (c.counted = true ∨ ∀ e ∈ s.waitList, e.state = .queued → e.cls.index ≤ c.index) →
        exec .ask s = .next (raise .full (answered .refusedFull))))

/-- ASK granted: a session in the lowest free record on the lowest-numbered FREE positions of the sector, the holding raised for STANDARD and BULK, GRANTED counted and answered
(R3, R20, R26, R27, R29, R41, R42). An idle link begins to send when the event is complete (R136; log entry 22). The order test is that of R27, log entry 28. -/
def Obligations.AskGranted : Prop :=
  ∀ (l : Link) (x : Lane) (f : RxFrame) (c : Cls) (sec : Sector) (i : RecordIndex) (s : State), AskOpen l x f c sec s →
    roomFor l c sec f.units s = true → orderFor c sec s = true → LowestFree i s →
    let h : Handle := ⟨i, (s.record i).generation⟩
    ∃ us : List UnitNo, us.length = f.units ∧ us.Pairwise (· < ·) ∧
      (∀ u ∈ us, (s.sector sec).positions.get u = .free) ∧
      (∀ u, (s.sector sec).positions.get u = .free → u ∉ us → ∀ v ∈ us, v < u) ∧
      exec .ask s = .next (countClass .granted c
        (((((s.serve l x f [.replyGranted f.tag f.cls h sec us]).counted c sec).modSector sec (fun p =>
          (p.after (fun u => if u ∈ us then .held h else p.positions.get u)).holding c l (· + f.units))).setSession i
            (s.granted l c sec us))))

/-- A grant to an ASK of STANDARD or BULK leaves its sector at least RE + RR FREE units, and one of RESPONDER at least RE (R28). The order test is that of R27, log entry 28. -/
def Obligations.GrantKeepsReserves : Prop :=
  ∀ (l : Link) (x : Lane) (f : RxFrame) (c : Cls) (sec : Sector) (i : RecordIndex) (s t : State), AskOpen l x f c sec s →
    roomFor l c sec f.units s = true → orderFor c sec s = true → LowestFree i s → exec .ask s = .next t →
    (t.sector sec).freeCount + f.units = (s.sector sec).freeCount ∧
    (c.counted = true → (s.sector sec).effective.emergencyReserve + (s.sector sec).effective.responderReserve
      ≤ (t.sector sec).freeCount) ∧
    (c = .responder → (s.sector sec).effective.emergencyReserve ≤ (t.sector sec).freeCount)

/-- ASK made to wait where no claim is made for it (its class gets no attempt, it is not short of units, or its candidates together hold fewer units than it is short of): it becomes the youngest entry, its tag becomes outstanding, and it is answered QUEUED; an EMERGENCY or RESPONDER one short of units that finds 16 claims in the table gets the claim-pending mark
and CLAIMFULL is raised (R30, R31, R32, R60, R66, R81, R84). An idle link begins to send when the event is complete (R136; log entry 22). The order test is that of R27, log entry 28. -/
def Obligations.AskQueued : Prop :=
  ∀ (l : Link) (x : Lane) (f : RxFrame) (c : Cls) (sec : Sector) (s : State), AskWaits l x f c sec s →
    s.waitList.length < 256 → (∀ e ∈ s.waitList, e.name ≠ ⟨l, f.tag⟩) →
    let waiting := fun (e : WaitEntry) =>
      { (setTag ⟨l, f.tag⟩ true ((s.serve l x f [.reply f.tag f.cls .queued]).counted c sec)) with
        waitList := s.waitList ++ [e] }
    (NoClaimMade (s.entryFor l f c sec .queued) s → exec .ask s = .next (waiting (s.entryFor l f c sec .queued))) ∧
    (c.counted = false → roomFor l c sec f.units s = false → s.claims.length = 16 →
      exec .ask s = .next (raise .claimFull (waiting { s.entryFor l f c sec .queued with claimPending := true })))

/-- An EMERGENCY or RESPONDER ASK with a full Wait List displaces the youngest QUEUED entry of the lowest class below its own: DISPLACED answered and counted, FULL raised, and the
ASK becomes the youngest entry (R34, R36). An idle link begins to send when the event is complete (R136; log entry 22). The order test is that of R27, log entry 28. -/
def Obligations.AskDisplaces : Prop :=
  ∀ (l : Link) (x : Lane) (f : RxFrame) (c : Cls) (sec : Sector) (before after : List WaitEntry) (d : WaitEntry) (s : State),
    AskWaits l x f c sec s → c.counted = false → s.waitList.length = 256 → StandsIn before d after s →
    d.state = .queued → c.index < d.cls.index →
    (∀ e ∈ before ++ after, e.state = .queued → e.cls.index ≤ d.cls.index) →
    (∀ e ∈ after, e.state = .queued → e.cls ≠ d.cls) →
    NoClaimMade (s.entryFor l f c sec .queued) s → (∀ e ∈ s.waitList, e.name ≠ ⟨l, f.tag⟩) → Roomy d.tenant 1 s →
    ∃ t, exec .ask s = .next t ∧
      t.waitList = before ++ after ++ [s.entryFor l f c sec .queued] ∧
      t.counters = (countClass .displaced d.cls (countClass .asked c s)).counters ∧ t.marks = s.marks ||| 16#9 ∧
      (d.tenant ≠ l →
        t.link d.tenant = { (s.link d.tenant).after [.reply d.tag d.cls.byte .displaced] 0 with
          tags := vput (s.link d.tenant).tags (tagIndex d.tag) false } ∧
        t.link l = { ((s.link l).taken x).after [.reply f.tag f.cls .queued] f.slots with
          tags := vput (s.link l).tags (tagIndex f.tag) true }) ∧
      (d.tenant = l →
        t.link l = { ((s.link l).taken x).after [.reply d.tag d.cls.byte .displaced, .reply f.tag f.cls .queued] f.slots with
          tags := vput (vput (s.link l).tags (tagIndex d.tag) false) (tagIndex f.tag) true }) ∧
      (∀ m, m ≠ l → m ≠ d.tenant → t.link m = s.link m) ∧
      t = { (s.counted c sec) with
        waitList := t.waitList, counters := t.counters, marks := t.marks, links := t.links
        arbiter := (s.serve l x f []).arbiter, work := EventWork.none }

/-- The victims of a claim attempt: sessions the class may take, from the front of the victim order (the lower class first, within it OFFERED before ACTIVE, then the latest admitted time, then the
higher record index), no more than 8 and no more than the shortfall needs; every one taken comes before every candidate left (R83, R84). -/
def Obligations.VictimsChosen : Prop :=
  ∀ (e : WaitEntry) (s : State),
    let vs := chooseVictims e s
    let short := e.units - (s.sector e.sector).usable e.cls
    (∀ v ∈ vs, s.session? v.1 = some v.2 ∧ candidate e v.2 = true) ∧ vs.length ≤ 8 ∧
    vs.Pairwise goesBefore ∧
    (∀ i, ∀ y ∈ s.session? i, candidate e y = true → (i, y) ∉ vs →
      (∀ v ∈ vs, goesBefore v (i, y)) ∧ (short ≤ unitsOf vs ∨ vs.length = 8)) ∧
    (vs ≠ [] → unitsOf vs.dropLast < short)

/-- An EMERGENCY or RESPONDER ASK short of units with room in the Claim Table and victims enough makes a claim: the entry is CLAIMING, the usable free units are EARMARKED, the
victims become RECLAIMING with a reclaim deadline, VICTIM is counted, and QUEUED and then the VACATE notices are queued (R32, R36, R82 to R86). An idle link begins to send when the event is complete (R136; log entry 22). The order test is that of R27, log entry 28. -/
def Obligations.AskMakesClaim : Prop :=
  ∀ (l : Link) (x : Lane) (f : RxFrame) (c : Cls) (sec : Sector) (s : State), AskWaits l x f c sec s →
    s.waitList.length < 256 → c.counted = false → roomFor l c sec f.units s = false → s.claims.length < 16 →
    (∀ e ∈ s.waitList, e.name ≠ ⟨l, f.tag⟩) → (∀ k ∈ s.claims, k.claimant ≠ ⟨l, f.tag⟩) →
    let e := s.entryFor l f c sec .queued
    let vs := chooseVictims e s
    let usable := (s.sector sec).usable c
    let us := (s.sector sec).freeList.take usable
    let handle := fun (v : RecordIndex × Session) => (⟨v.1, (s.record v.1).generation⟩ : Handle)
    let vacates := fun (m : Link) =>
      (vs.filter (fun v => v.2.tenant = m)).map (fun v => OutFrame.vacate (handle v))
    f.units - usable ≤ unitsOf vs → (∀ v ∈ vs, Roomy v.2.tenant 9 s) →
    ∃ t, exec .ask s = .next t ∧
      t.claims = s.claims ++ [⟨⟨l, f.tag⟩, c, sec, f.units, us, vs.map handle⟩] ∧
      t.waitList = s.waitList ++ [s.entryFor l f c sec .claiming] ∧
      (∀ u, (t.sector sec).positions.get u =
        if u ∈ us then .earmarked ⟨l, f.tag⟩ else (s.sector sec).positions.get u) ∧
      (t.sector sec).holdings = (s.sector sec).holdings ∧ (∀ i, i ≠ sec → t.sector i = s.sector i) ∧
      (∀ v ∈ vs, t.record v.1 = ⟨(s.record v.1).generation,
        some { v.2 with state := .reclaiming (s.timeBase + s.policy.globals.reclaimLimit) (some ⟨l, f.tag⟩) }⟩) ∧
      (∀ i, (∀ v ∈ vs, v.1 ≠ i) → t.record i = s.record i) ∧
      t.counters = (vs.foldl (fun s v => countClass .victim v.2.cls s) (countClass .asked c s)).counters ∧
      t.link l = { ((s.link l).taken x).after (.reply f.tag f.cls .queued :: vacates l) f.slots with
        tags := vput (s.link l).tags (tagIndex f.tag) true } ∧
      (∀ m, m ≠ l → t.link m = (s.link m).after (vacates m) 0) ∧
      t = { (s.counted c sec) with
        claims := t.claims, waitList := t.waitList, sectors := t.sectors, sessions := t.sessions, links := t.links
        counters := t.counters, arbiter := (s.serve l x f []).arbiter, work := EventWork.none }

/-! ### Frames that name a session -/

/-- TAKEN makes an OFFERED session ACTIVE, with a hold deadline if its class has a hold limit, and is answered ACCEPTED; on an ACTIVE or RECLAIMING session it is answered WRONG-STATE
and changes nothing (R46). -/
def Obligations.TakenActivates : Prop :=
  ∀ (l : Link) (x : Lane) (f : RxFrame) (i : RecordIndex) (y : Session) (s : State), EngineTurn .taken l x f s →
    Names l f i y s →
    let answers := fun (o : ReplyOutcome) (z : Session) => ∃ t, exec .taken s = .next t ∧
      t.record i = ⟨(s.record i).generation, some z⟩ ∧ (∀ j, j ≠ i → t.record j = s.record j) ∧
      (t.link l).outbound = (s.link l).outbound ++ [.replyHandle f.tag f.cls o f.recordIndex f.generation] ∧
      (t.link l).tags = (s.link l).tags ∧ (∀ m, m ≠ l → t.link m = s.link m) ∧
      t = { s with sessions := t.sessions, links := t.links, arbiter := t.arbiter, work := t.work }
    (∀ d, y.state = .offered d → answers .accepted { y with
      state := .active (if (s.classPolicy y.cls).holdLimit = 0 then none
        else some (s.timeBase + (s.classPolicy y.cls).holdLimit * 1000)) }) ∧
    (∀ d, y.state = .active d → answers .wrongState y) ∧
    (∀ d k, y.state = .reclaiming d k → answers .wrongState y)

/-- MISSED below the retry allowance raises the missed count and restarts the offer; on an ACTIVE or RECLAIMING session it is answered WRONG-STATE and changes nothing (R47, R52). That the new offer deadline is the Time Base plus the offer limit also where that is earlier
than the deadline it replaces, which R56 has it never be, is the model's choice, log entry 30. An idle link begins to send when the event is complete (R136; log entry 22). -/
def Obligations.MissedRestartsOffer : Prop :=
  ∀ (l : Link) (x : Lane) (f : RxFrame) (i : RecordIndex) (y : Session) (s : State), EngineTurn .missed l x f s →
    Names l f i y s →
    let answered := fun (o : ReplyOutcome) => s.serve l x f [.replyHandle f.tag f.cls o f.recordIndex f.generation]
    (∀ d, y.state = .offered d → y.missedCount < y.retryAllowance →
      exec .missed s = .next ((answered .accepted).setSession i { y with
        missedCount := y.missedCount + 1
        state := .offered (s.timeBase + s.policy.globals.offerLimit) })) ∧
    (∀ d, y.state = .active d → exec .missed s = .next (answered .wrongState)) ∧
    (∀ d k, y.state = .reclaiming d k → exec .missed s = .next (answered .wrongState))

/-- A frame whose handle matches no record is answered UNKNOWN, and YIELDED on a session that is not RECLAIMING WRONG-STATE, with the handle it named; nothing else changes (R45, R52). An idle link begins to send when the event is complete (R136; log entry 22). -/
def Obligations.HandleRefused : Prop :=
  ∀ (l : Link) (x : Lane) (f : RxFrame) (s : State),
    let answered := fun (o : ReplyOutcome) => s.serve l x f [.replyHandle f.tag f.cls o f.recordIndex f.generation]
    (∀ c k, (c, k) ∈ [(Instr.taken, FrameKind.taken), (.missed, .missed), (.endSession, .endSession), (.yielded, .yielded)] →
      EngineTurn k l x f s → (∀ i, ¬ Matches l f i s) → exec c s = .next (answered .unknown)) ∧
    (∀ i y, EngineTurn .yielded l x f s → Names l f i y s → y.isReclaiming = false →
      exec .yielded s = .next (answered .wrongState))

/-- A session ended by its tenant where nobody waits for its units and no claim takes them: END, YIELDED on a RECLAIMING session and MISSED at the allowance free the record, advance its generation
and return its units, answered ACCEPTED, ACCEPTED and CANCELLED (R7, R9, R44, R47, R49, R87). An idle link begins to send when the event is complete (R136; log entry 22). -/
def Obligations.TenantEndsSession : Prop :=
  ∀ (l : Link) (x : Lane) (f : RxFrame) (i : RecordIndex) (y : Session) (s : State), Names l f i y s →
    y.unclaimed = true → NoneWaiting y.sector s →
    let answered := fun (o : ReplyOutcome) =>
      (s.serve l x f [.replyHandle f.tag f.cls o f.recordIndex f.generation]).freed i y
    (EngineTurn .endSession l x f s → exec .endSession s = .next (answered .accepted)) ∧
    (EngineTurn .yielded l x f s → y.isReclaiming = true → exec .yielded s = .next (answered .accepted)) ∧
    (∀ d, EngineTurn .missed l x f s → y.state = .offered d → y.retryAllowance ≤ y.missedCount →
      exec .missed s = .next (answered .cancelled))

/-- Wait service goes over the QUEUED entries of the sector, all of them and no others, by class and within a class in list order. END in a sector with no claim and any number of QUEUED entries: they are looked at in that
order on the units as released; each that passes its room test is granted, in the lowest free records and on the lowest FREE positions, and the scan goes on with what is left; one that fails by its cap alone is passed over and stays; the
first that fails by units stops the scan, and it and all behind it stay as they were (R3, R29, R41, R42, R72 to R76). An idle link begins to send when the event is complete (R136; log entry 22). -/
def Obligations.ServiceScansInOrder : Prop :=
  (∀ (sec : Sector) (s : State),
    (∀ e, e ∈ scanOrder sec s ↔ e ∈ s.waitList ∧ e.sector = sec ∧ e.state = .queued) ∧
    (scanOrder sec s).Pairwise (fun a b => a.cls.index ≤ b.cls.index) ∧
    ∀ c : Cls, (scanOrder sec s).filter (fun e => e.cls = c) =
      s.waitList.filter (fun e => e.sector = sec && e.state = .queued && e.cls = c)) ∧
  ∀ (l : Link) (x : Lane) (f : RxFrame) (i : RecordIndex) (y : Session) (js : List RecordIndex) (s : State),
    EngineTurn .endSession l x f s → Names l f i y s → y.unclaimed = true → BooksInv s →
    (∀ c ∈ s.claims, c.sector ≠ y.sector) → (∃ v ∈ y.units, v.val < (s.sector y.sector).effective.capacity) →
    let u := s.freed i y
    let p := u.sector y.sector
    let granted := grantedInTurn p (fun t => (s.tenantPolicy t).cap) p.freeCount p.holdings.get (waitingFor y.sector s)
    LowestRecords js u → js.length = granted.length → (∀ e ∈ granted, Roomy e.tenant (granted.length + 1) s) →
    let accepted := OutFrame.replyHandle f.tag f.cls .accepted f.recordIndex f.generation
    let handle := fun (j : RecordIndex) => (⟨j, (u.record j).generation⟩ : Handle)
    ∃ (uss : List (List UnitNo)) (t : State), exec .endSession s = .next t ∧
      uss.map List.length = granted.map WaitEntry.units ∧ LowestUnits uss.flatten (granted.map WaitEntry.units).sum p ∧
      (let gs := granted.zip (js.zip uss)
       (∀ g ∈ gs, t.record g.2.1 =
          ⟨(u.record g.2.1).generation, some (s.granted g.1.tenant g.1.cls y.sector g.2.2)⟩ ∧
          ∀ v ∈ g.2.2, (t.sector y.sector).positions.get v = .held (handle g.2.1)) ∧
       ∀ m, t.link m = { (s.linkAfter l x f (fun m =>
            (if m = l then [accepted] else []) ++ (gs.filter (fun g => g.1.tenant = m)).map (fun g =>
              .replyGranted g.1.tag g.1.cls.byte (handle g.2.1) y.sector g.2.2)) m) with
          tags := (s.link m).untagged m granted }) ∧
      (∀ m, m ∉ js → t.record m = u.record m) ∧
      (∀ v, v ∉ uss.flatten → (t.sector y.sector).positions.get v = p.positions.get v) ∧
      t.sector y.sector = { p with
        positions := (t.sector y.sector).positions
        holdings := (granted.foldl (fun q e => q.holding e.cls e.tenant (· + e.units)) p).holdings } ∧
      (∀ m, m ≠ y.sector → t.sector m = s.sector m) ∧
      t.waitList = s.waitList.filter (fun e => e.name ∉ granted.map WaitEntry.name) ∧
      t.counters = (granted.foldl (fun s e => countClass .granted e.cls s) s).counters ∧
      t = { s with
        sessions := t.sessions, sectors := t.sectors, waitList := t.waitList, counters := t.counters, links := t.links
        arbiter := (s.serve l x f []).arbiter, work := EventWork.none }

/-- END with one entry QUEUED for the sector and no claim in it: if the entry passes its room test on the units as released, its session is made in the lowest free record on the lowest FREE positions within the event, GRANTED is counted and queued after the
ACCEPTED, and the entry and its tag are gone; if it does not pass, the units stay with the pool. END with one claim in the sector: the claim first takes, lowest-numbered first, as many FREE units as its class allows up to its remaining need; short of
it, it waits on, and with it the claimant is granted the earmark and the claim leaves the table, its victims RECLAIMING without it (R3, R7, R29, R44, R49, R53, R72 to R76, R90 to R92). An idle link begins to send when the event is complete (R136; log entry 22). -/
def Obligations.FreedUnitsServeWaiting : Prop :=
  (∀ (l : Link) (x : Lane) (f : RxFrame) (i j : RecordIndex) (y : Session) (before after : List WaitEntry) (e : WaitEntry)
    (s : State), EngineTurn .endSession l x f s → Names l f i y s → y.unclaimed = true → StandsIn before e after s →
    e.state = .queued → e.sector = y.sector → (∀ d ∈ before ++ after, d.sector = y.sector → d.state ≠ .queued) →
    (∀ c ∈ s.claims, c.sector ≠ y.sector) →
    (j = i ∨ s.session? j = none) → (∀ m < j, m ≠ i ∧ s.session? m ≠ none) → Roomy e.tenant 2 s →
    let u := s.freed i y
    let p := u.sector y.sector
    let accepted := OutFrame.replyHandle f.tag f.cls .accepted f.recordIndex f.generation
    (roomFor e.tenant e.cls e.sector e.units u = false →
      exec .endSession s = .next ((s.serve l x f [accepted]).freed i y)) ∧
    (roomFor e.tenant e.cls e.sector e.units u = true → (∃ v ∈ y.units, v.val < (s.sector y.sector).effective.capacity) →
      let h : Handle := ⟨j, if j = i then (s.record i).generation + 1 else (s.record j).generation⟩
      ∃ (us : List UnitNo) (t : State), exec .endSession s = .next t ∧ us.length = e.units ∧ us.Pairwise (· < ·) ∧
        (∀ v ∈ us, p.positions.get v = .free) ∧ (∀ w, p.positions.get w = .free → w ∉ us → ∀ v ∈ us, v < w) ∧
        t.record j = ⟨h.generation, some (s.granted e.tenant e.cls e.sector us)⟩ ∧
        (∀ m, m ≠ j → t.record m = u.record m) ∧
        (∀ v, (t.sector y.sector).positions.get v = if v ∈ us then .held h else p.positions.get v) ∧
        (t.sector y.sector).holdings = (p.holding e.cls e.tenant (· + e.units)).holdings ∧
        (∀ m, m ≠ y.sector → t.sector m = s.sector m) ∧ t.waitList = before ++ after ∧
        t.counters = (countClass .granted e.cls s).counters ∧
        (let granted := OutFrame.replyGranted e.tag e.cls.byte h e.sector us
         (e.tenant ≠ l →
           t.link l = ((s.link l).taken x).after [accepted] f.slots ∧
           t.link e.tenant = { (s.link e.tenant).after [granted] 0 with
             tags := vput (s.link e.tenant).tags (tagIndex e.tag) false }) ∧
         (e.tenant = l →
           t.link l = { ((s.link l).taken x).after [accepted, granted] f.slots with
             tags := vput (s.link l).tags (tagIndex e.tag) false })) ∧
        (∀ m, m ≠ l → m ≠ e.tenant → t.link m = s.link m) ∧
        t = { s with
          sessions := t.sessions, sectors := t.sectors, waitList := t.waitList, counters := t.counters, links := t.links
          arbiter := (s.serve l x f []).arbiter, work := EventWork.none })) ∧
  ∀ (l : Link) (x : Lane) (f : RxFrame) (i j : RecordIndex) (y : Session) (before after : List Claim) (k : Claim)
    (s : State), EngineTurn .endSession l x f s → Names l f i y s → y.unclaimed = true → s.claims = before ++ k :: after →
    k.sector = y.sector → k.cls.counted = false → k.earmarked.length < k.need →
    (∀ m ∈ before ++ after, m.claimant ≠ k.claimant ∧ m.sector ≠ y.sector) →
    (∀ e ∈ s.waitList, e.sector = y.sector → e.state ≠ .queued) →
    (∃ v ∈ y.units, v.val < (s.sector y.sector).effective.capacity) →
    let u := s.freed i y
    let p := u.sector y.sector
    let need := k.need - k.earmarked.length
    let allowed := match k.cls with
      | .emergency => p.freeCount
      | _ => p.freeCount - p.effective.emergencyReserve
    let accepted := OutFrame.replyHandle f.tag f.cls .accepted f.recordIndex f.generation
    ∃ us mark : List UnitNo, LowestUnits us (min need allowed) p ∧ mark.Pairwise (· ≤ ·) ∧ mark.Perm (k.earmarked ++ us) ∧
      (allowed < need → exec .endSession s = .next { (((s.serve l x f [accepted]).freed i y).modSector y.sector (fun q =>
          q.after (fun v => if v ∈ us then .earmarked k.claimant else q.positions.get v))) with
        claims := before ++ { k with earmarked := mark } :: after }) ∧
      (need ≤ allowed → BooksInv s → (∀ e ∈ s.waitList, e.claimPending = false) →
        (j = i ∨ s.session? j = none) → (∀ m < j, m ≠ i ∧ s.session? m ≠ none) → Roomy k.claimant.tenant 2 s →
        let h : Handle := ⟨j, (u.record j).generation⟩
        let granted := OutFrame.replyGranted k.claimant.tag k.cls.byte h k.sector mark
        ∃ t, exec .endSession s = .next t ∧
          t.record j = ⟨h.generation, some (s.granted k.claimant.tenant k.cls k.sector mark)⟩ ∧
          (∀ m, m ≠ j → t.record m =
            ⟨(u.record m).generation, (u.session? m).map (Session.releasedBy k.claimant)⟩) ∧
          t.sector y.sector = p.after (fun v => if v ∈ mark then .held h else p.positions.get v) ∧
          (∀ m, m ≠ y.sector → t.sector m = s.sector m) ∧ t.claims = before ++ after ∧
          t.waitList = s.waitList.filter (fun e => e.name ≠ k.claimant) ∧
          t.counters = (countClass .granted k.cls s).counters ∧
          (∀ m, t.link m = { (s.linkAfter l x f (fun m =>
              (if m = l then [accepted] else []) ++ (if m = k.claimant.tenant then [granted] else [])) m) with
            tags := if m = k.claimant.tenant then vput (s.link m).tags (tagIndex k.claimant.tag) false
              else (s.link m).tags }) ∧
          t = { s with
            sessions := t.sessions, sectors := t.sectors, claims := t.claims, waitList := t.waitList, counters := t.counters
            links := t.links, arbiter := (s.serve l x f []).arbiter, work := EventWork.none })

/-- YIELDED or END of a victim whose claim needs more than its units: all of them join the earmark, in ascending order, nothing is released and the claim waits on (R5, R87). An idle link begins to send when the event is complete (R136; log entry 22). -/
def Obligations.VictimFeedsClaim : Prop :=
  ∀ (c : Instr) (kind : FrameKind) (l : Link) (x : Lane) (f : RxFrame) (i : RecordIndex) (y : Session) (d : Nat)
    (before after : List Claim) (k : Claim) (s : State),
    (c, kind) ∈ [(Instr.yielded, FrameKind.yielded), (.endSession, .endSession)] → EngineTurn kind l x f s →
    Names l f i y s → y.state = .reclaiming d (some k.claimant) → s.claims = before ++ k :: after →
    (∀ j ∈ before ++ after, j.claimant ≠ k.claimant) → k.earmarked.length + y.units.length < k.need →
    ∃ us : List UnitNo, us.Pairwise (· ≤ ·) ∧ us.Perm (k.earmarked ++ y.units) ∧
      exec c s = .next { ((((s.serve l x f [.replyHandle f.tag f.cls .accepted f.recordIndex f.generation]).modRecord i
          (fun r => ⟨r.generation + 1, none⟩))).modSector y.sector (fun p =>
            (p.after (fun u => if u ∈ y.units then .earmarked k.claimant else p.positions.get u)).holding
              y.cls y.tenant (· - y.units.length))) with
        claims := before ++ { k with
          earmarked := us
          victims := k.victims.filter (· ≠ ⟨i, (s.record i).generation⟩) } :: after }

/-- YIELDED or END of the last victim of a claim completes it: the claimant's session is made OFFERED in the lowest free record on the earmark, its entry, tag and claim go, GRANTED is counted and
queued after the ACCEPTED, and units beyond the need are released. The slot it frees is offered to the marked entries (R5, R6, R87, R66, R67, R91, R92). An idle link begins to send when the event is complete (R136; log entry 22). -/
def Obligations.LastVictimCompletesClaim : Prop :=
  ∀ (c : Instr) (kind : FrameKind) (l : Link) (x : Lane) (f : RxFrame) (i j : RecordIndex) (y : Session) (d : Nat)
    (k : Claim) (s : State),
    (c, kind) ∈ [(Instr.yielded, FrameKind.yielded), (.endSession, .endSession)] → EngineTurn kind l x f s →
    Names l f i y s → y.state = .reclaiming d (some k.claimant) → k ∈ s.claims → k.sector = y.sector →
    k.cls.counted = false →
    (∀ m ∈ s.claims, m = k ∨ (m.claimant ≠ k.claimant ∧ m.sector ≠ y.sector)) →
    (∀ m, m ≠ i → ∀ z ∈ s.session? m, z.claim? ≠ some k.claimant) →
    (∀ e ∈ s.waitList, e.sector = y.sector → e.state ≠ .queued) →
    (∀ u ∈ k.earmarked, u ∉ y.units) → k.earmarked.length < k.need → k.need ≤ k.earmarked.length + y.units.length →
    (j = i ∨ s.session? j = none) → (∀ m < j, m ≠ i ∧ s.session? m ≠ none) → Roomy k.claimant.tenant 2 s →
    let rest := y.units.drop (k.need - k.earmarked.length)
    let h : Handle := ⟨j, if j = i then (s.record i).generation + 1 else (s.record j).generation⟩
    let accepted := OutFrame.replyHandle f.tag f.cls .accepted f.recordIndex f.generation
    (BooksInv s → s.claims.length ≤ 16 → SlotOffered c s) ∧
    ((∀ e ∈ s.waitList, e.claimPending = false) → ∃ (us : List UnitNo) (t : State), exec c s = .next t ∧ us.Pairwise (· ≤ ·) ∧
      us.Perm (k.earmarked ++ y.units.take (k.need - k.earmarked.length)) ∧
      t.record j = ⟨h.generation, some (s.granted k.claimant.tenant k.cls k.sector us)⟩ ∧
      (j ≠ i → t.record i = ⟨(s.record i).generation + 1, none⟩) ∧ (∀ m, m ≠ i → m ≠ j → t.record m = s.record m) ∧
      (∀ u, (t.sector y.sector).positions.get u =
        if u ∈ us then .held h else if u ∈ rest then (s.sector y.sector).returned u
        else (s.sector y.sector).positions.get u) ∧
      (t.sector y.sector).holdings = ((s.sector y.sector).holding y.cls y.tenant (· - y.units.length)).holdings ∧
      (∀ m, m ≠ y.sector → t.sector m = s.sector m) ∧
      t.claims = s.claims.filter (fun m => m.claimant ≠ k.claimant) ∧
      t.waitList = s.waitList.filter (fun e => e.name ≠ k.claimant) ∧
      t.counters = (countClass .granted k.cls s).counters ∧
      (let granted := OutFrame.replyGranted k.claimant.tag k.cls.byte h k.sector us
       (k.claimant.tenant ≠ l →
         t.link l = ((s.link l).taken x).after [accepted] f.slots ∧
         t.link k.claimant.tenant = { (s.link k.claimant.tenant).after [granted] 0 with
           tags := vput (s.link k.claimant.tenant).tags (tagIndex k.claimant.tag) false }) ∧
       (k.claimant.tenant = l →
         t.link l = { ((s.link l).taken x).after [accepted, granted] f.slots with
           tags := vput (s.link l).tags (tagIndex k.claimant.tag) false })) ∧
      (∀ m, m ≠ l → m ≠ k.claimant.tenant → t.link m = s.link m) ∧
      t = { s with
        sessions := t.sessions, sectors := t.sectors, claims := t.claims, waitList := t.waitList, counters := t.counters
        links := t.links, arbiter := (s.serve l x f []).arbiter, work := EventWork.none })

/-! ### DROP, LOOK, LEAVE -/

/-- DROP of a QUEUED entry withdraws it: WITHDRAWN with the entry's class, its tag freed and the entry gone; a DROP whose target tag names no entry of its tenant is answered UNKNOWN and nothing
changes (R68). An idle link begins to send when the event is complete (R136; log entry 22). -/
def Obligations.DropWithdraws : Prop :=
  ∀ (l : Link) (x : Lane) (f : RxFrame) (s : State), EngineTurn .drop l x f s →
    (∀ before e after, StandsIn before e after s → e.name = ⟨l, f.tag⟩ → e.state = .queued →
      exec .drop s = .next { (setTag e.name false (s.serve l x f [.reply f.tag e.cls.byte .withdrawn])) with
        waitList := before ++ after }) ∧
    ((∀ e ∈ s.waitList, e.name ≠ ⟨l, f.tag⟩) → exec .drop s = .next (s.serve l x f [.reply f.tag f.cls .unknown]))

/-- DROP of a CLAIMING entry, where nobody else waits for its sector: WITHDRAWN, and its claim ends: its earmark is released by the capacity, its victims stay RECLAIMING without a
claim reference, and the claim leaves the table. The slot it frees is offered to the marked entries (R53, R66 to R68, R93). An idle link begins to send when the event is complete (R136; log entry 22). -/
def Obligations.DropEndsClaim : Prop :=
  ∀ (l : Link) (x : Lane) (f : RxFrame) (beforeE afterE : List WaitEntry) (e : WaitEntry) (before after : List Claim)
    (k : Claim) (s : State), EngineTurn .drop l x f s → StandsIn beforeE e afterE s → e.name = ⟨l, f.tag⟩ →
    e.state = .claiming → s.claims = before ++ k :: after → k.claimant = e.name →
    (∀ m ∈ before ++ after, m.claimant ≠ e.name ∧ m.sector ≠ k.sector) →
    (∀ i, ∀ y ∈ s.session? i, y.claim? = some e.name → ∃ h ∈ k.victims, h.index = i) →
    (∀ d ∈ beforeE ++ afterE, d.sector = k.sector → d.state ≠ .queued) →
    (BooksInv s → s.claims.length ≤ 16 → SlotOffered .drop s) ∧
    ((∀ d ∈ beforeE ++ afterE, d.claimPending = false) → exec .drop s = .next { ((setTag e.name false (s.serve l x f [.reply f.tag e.cls.byte .withdrawn])).modSector k.sector
        (fun p => p.after (fun u => if u ∈ k.earmarked then p.returned u else p.positions.get u))) with
      waitList := beforeE ++ afterE
      claims := before ++ after
      sessions := Vector.ofFn (fun i => ⟨(s.record i).generation, (s.session? i).map (Session.releasedBy e.name)⟩) })

/-- LOOK: a sector field of 0 to 7 is answered ACCEPTED with the free count, effective capacity, load ratio and fractions as they stand, and one of 8 or above REFUSED-INVALID; nothing is counted and
no tag is held (R39). -/
def Obligations.LookAnswered : Prop :=
  ∀ (l : Link) (x : Lane) (f : RxFrame) (s : State), EngineTurn .look l x f s →
    let answers := fun (g : OutFrame) => ∃ t, exec .look s = .next t ∧
      (t.link l).outbound = (s.link l).outbound ++ [g] ∧ (t.link l).tags = (s.link l).tags ∧
      (∀ m, m ≠ l → t.link m = s.link m) ∧ t = { s with links := t.links, arbiter := t.arbiter, work := t.work }
    (∀ sec : Sector, sec.val = f.sectorField.toNat →
      answers (.replyLook f.tag f.cls sec (s.sector sec).effective.capacity
        ⟨(s.sector sec).freeCount, (s.meter sec).ratio, (s.meter sec).fractions⟩)) ∧
    (8 ≤ f.sectorField.toNat → answers (.reply f.tag f.cls .refusedInvalid))

/-- LEAVE: the link becomes PRESENT, LINK is raised, the release sequence takes back everything its tenant held, and of its store the ACCEPTED and a frame already in transmission are left (R143, R145,
R147). An idle link begins to send when the event is complete (R136; log entry 22). -/
def Obligations.LeaveTakesAllBack : Prop :=
  ∀ (l : Link) (x : Lane) (f : RxFrame) (s : State), EngineTurn .leave l x f s → BooksInv s →
    ∃ t, exec .leave s = .next t ∧ (t.link l).state = .present ∧ t.marks.getLsbD 0 = true ∧
      (∀ p, (s.link l).sending = some p →
        (t.link l).outbound = (s.link l).outbound.take 1 ++ [.reply f.tag f.cls .accepted] ∧ (t.link l).sending = some p) ∧
      ((s.link l).sending = none → (t.link l).outbound = [.reply f.tag f.cls .accepted] ∧
        (t.link l).sending = some ⟨0, (OutFrame.reply f.tag f.cls .accepted).bytes 0⟩) ∧
      HoldsNothing l t ∧ DepartureKeeps s t ∧ t.port = s.port

/-! ### Deadlines -/

/-- A deadline of a session is reached. OFFER_EXPIRY of an OFFERED one, HOLD_EXPIRY of an ACTIVE one whose class is shedding, and RECLAIM_EXPIRY, which also counts and raises FORCED, free the record with a LAPSE to its tenant and return its units (where
nobody waits for them and no claim takes them); HOLD_EXPIRY of one whose class is not shedding sets the hold deadline anew, or removes it when the class has no hold limit now. RECLAIM_EXPIRY of a victim whose claim reference is present gives its units to the claim, up to its
remaining need: the claim waits on, or, where nobody else waits for its sector, completes with the claimant's GRANTED behind the LAPSE, and the slot it frees is offered to the marked entries (R5, R6, R7, R44, R48, R50, R51, R54, R67, R87, R88, R91, R92). An idle link begins to send when the event is complete (R136; log entry 22). -/
def Obligations.SessionDeadlines : Prop :=
  ∀ (i : RecordIndex) (y : Session) (d : Nat) (s : State), Ready s → s.session? i = some y → d ≤ s.timeBase →
    (y.unclaimed = true → NoneWaiting y.sector s → Roomy y.tenant 1 s →
      let lapsed := fun (c : LapseCause) => (s.queued y.tenant [.lapse c ⟨i, (s.record i).generation⟩]).freed i y
      (y.state = .offered d → exec (.offerExpiry i) s = .next (lapsed .offerExpired)) ∧
      (y.state = .active (some d) → (s.classPolicy y.cls).onset < (s.meter y.sector).ratio →
        exec (.holdExpiry i) s = .next (lapsed .holdLimit)) ∧
      (y.state = .reclaiming d none →
        exec (.reclaimExpiry i) s = .next (raise .forced (countTenant .forced y.tenant (lapsed .forcedReclaim))))) ∧
    (y.state = .active (some d) → (s.meter y.sector).ratio ≤ (s.classPolicy y.cls).onset →
      exec (.holdExpiry i) s = .next ({ s with work := EventWork.none }.setSession i { y with
        state := .active (if (s.classPolicy y.cls).holdLimit = 0 then none
          else some (s.timeBase + (s.classPolicy y.cls).holdLimit * 1000)) })) ∧
    ∀ (before after : List Claim) (k : Claim), y.state = .reclaiming d (some k.claimant) →
      s.claims = before ++ k :: after → (∀ m ∈ before ++ after, m.claimant ≠ k.claimant) →
      let lapse := OutFrame.lapse .forcedReclaim ⟨i, (s.record i).generation⟩
      (k.earmarked.length + y.units.length < k.need → Roomy y.tenant 1 s →
        ∃ us : List UnitNo, us.Pairwise (· ≤ ·) ∧ us.Perm (k.earmarked ++ y.units) ∧
          exec (.reclaimExpiry i) s = .next (raise .forced (countTenant .forced y.tenant
            { (((s.queued y.tenant [lapse]).modRecord i (fun r => ⟨r.generation + 1, none⟩)).modSector y.sector (fun p =>
                (p.after (fun u => if u ∈ y.units then .earmarked k.claimant else p.positions.get u)).holding
                  y.cls y.tenant (· - y.units.length))) with
              claims := before ++ { k with
                earmarked := us
                victims := k.victims.filter (· ≠ ⟨i, (s.record i).generation⟩) } :: after }))) ∧
      (BooksInv s → k.cls.counted = false → (∀ m ∈ before ++ after, m.sector ≠ y.sector) →
        (∀ e ∈ s.waitList, e.sector = y.sector → e.state ≠ .queued) → (∀ u ∈ k.earmarked, u ∉ y.units) →
        k.earmarked.length < k.need → k.need ≤ k.earmarked.length + y.units.length →
        (s.claims.length ≤ 16 → Roomy y.tenant 2 s → Roomy k.claimant.tenant 2 s → SlotOffered (.reclaimExpiry i) s) ∧
        ∀ j, LowestRecords [j] (s.freed i y) → Roomy y.tenant 2 s → Roomy k.claimant.tenant 2 s →
          (∀ e ∈ s.waitList, e.claimPending = false) →
          let u := s.freed i y
          let rest := y.units.drop (k.need - k.earmarked.length)
          let h : Handle := ⟨j, (u.record j).generation⟩
          ∃ (us : List UnitNo) (t : State), exec (.reclaimExpiry i) s = .next t ∧ us.Pairwise (· ≤ ·) ∧
            us.Perm (k.earmarked ++ y.units.take (k.need - k.earmarked.length)) ∧
            t.record j = ⟨h.generation, some (s.granted k.claimant.tenant k.cls k.sector us)⟩ ∧
            (∀ m, m ≠ j → t.record m =
              ⟨(u.record m).generation, (u.session? m).map (Session.releasedBy k.claimant)⟩) ∧
            t.sector y.sector = ((s.sector y.sector).after (fun v =>
              if v ∈ us then .held h else if v ∈ rest then (s.sector y.sector).returned v
              else (s.sector y.sector).positions.get v)).holding y.cls y.tenant (· - y.units.length) ∧
            (∀ m, m ≠ y.sector → t.sector m = s.sector m) ∧ t.claims = before ++ after ∧
            t.waitList = s.waitList.filter (fun e => e.name ≠ k.claimant) ∧
            t.counters = (countClass .granted k.cls (countTenant .forced y.tenant s)).counters ∧
            t.marks = (raise .forced s).marks ∧
            (∀ m, t.link m = { (s.link m).after ((if m = y.tenant then [lapse] else []) ++
                (if m = k.claimant.tenant then [.replyGranted k.claimant.tag k.cls.byte h k.sector us] else [])) 0 with
              tags := if m = k.claimant.tenant then vput (s.link m).tags (tagIndex k.claimant.tag) false
                else (s.link m).tags }) ∧
            t = { s with
              sessions := t.sessions, sectors := t.sectors, claims := t.claims, waitList := t.waitList
              counters := t.counters, marks := t.marks, links := t.links, work := EventWork.none })

/-- WAIT_EXPIRY of an entry: TIMED-OUT answered and counted, its tag freed and the entry gone; where it was CLAIMING, and nobody else waits for its sector, its claim ends: the earmark is released by the capacity, the victims stay RECLAIMING without a claim reference, and
the slot is offered to the marked entries. ESCALATION marks the entry, removes its deadline and raises ESCALATE; a QUEUED entry short of units gets an attempt, which sets the claim-pending mark and raises CLAIMFULL when the table is full, leaves the
entry QUEUED when its candidates together hold fewer units than it is short of, and otherwise makes a claim, whose victims, sent VACATE, may now be RESPONDER sessions too (R53, R63, R64, R66, R67, R81 to R86, R93). An idle link begins to send when the event is complete (R136; log entry 22). -/
def Obligations.EntryDeadlines : Prop :=
  ∀ (before after : List WaitEntry) (e : WaitEntry) (d : Nat) (s : State), Ready s → StandsIn before e after s →
    d ≤ s.timeBase →
    (e.waitDeadline = some d → e.state = .queued → Roomy e.tenant 1 s →
      exec (.waitExpiry e.tenant e.tag) s = .next { (setTag e.name false
          (countClass .timedOut e.cls (s.queued e.tenant [.reply e.tag e.cls.byte .timedOut]))) with
        waitList := before ++ after }) ∧
    (e.cls = .emergency → e.escalationDeadline = some d →
      let marked := { e with escalated := true, escalationDeadline := none }
      let short := e.state = .queued ∧ roomFor e.tenant e.cls e.sector e.units s = false
      (¬ short → exec (.escalation e.tenant e.tag) s =
        .next (raise .escalate { s with waitList := before ++ marked :: after, work := EventWork.none })) ∧
      (short → s.claims.length = 16 → exec (.escalation e.tenant e.tag) s =
        .next (raise .claimFull (raise .escalate { s with
          waitList := before ++ { marked with claimPending := true } :: after, work := EventWork.none }))) ∧
      (short → s.claims.length < 16 → TooFewVictims marked s →
        exec (.escalation e.tenant e.tag) s =
          .next (raise .escalate { s with
            waitList := before ++ { marked with claimPending := false } :: after, work := EventWork.none })) ∧
      (short → s.claims.length < 16 → (∀ c ∈ s.claims, c.claimant ≠ e.name) →
        let vs := chooseVictims marked s
        e.units - (s.sector e.sector).usable .emergency ≤ unitsOf vs → (∀ v ∈ vs, Roomy v.2.tenant 8 s) →
        ∃ t, exec (.escalation e.tenant e.tag) s = .next t ∧ ClaimMade marked s t ∧
          t.waitList = before ++ { marked with claimPending := false, state := .claiming } :: after ∧
          (∀ m, t.link m = (s.link m).after (vacatesTo m marked s) 0) ∧
          t = { (raise .escalate s) with
            claims := t.claims, waitList := t.waitList, sectors := t.sectors, sessions := t.sessions
            counters := t.counters, links := t.links, work := EventWork.none })) ∧
    (∀ (cs ds : List Claim) (k : Claim), e.waitDeadline = some d → e.state = .claiming → s.claims = cs ++ k :: ds →
      k.claimant = e.name → (∀ m ∈ cs ++ ds, m.claimant ≠ e.name ∧ m.sector ≠ k.sector) →
      (∀ i, ∀ y ∈ s.session? i, y.claim? = some e.name → ∃ h ∈ k.victims, h.index = i) →
      (∀ a ∈ before ++ after, a.sector = k.sector → a.state ≠ .queued) →
      (BooksInv s → s.claims.length ≤ 16 → Roomy e.tenant 1 s → SlotOffered (.waitExpiry e.tenant e.tag) s) ∧
      (Roomy e.tenant 1 s → (∀ a ∈ before ++ after, a.claimPending = false) →
        exec (.waitExpiry e.tenant e.tag) s = .next { ((setTag e.name false
            (countClass .timedOut e.cls (s.queued e.tenant [.reply e.tag e.cls.byte .timedOut]))).modSector k.sector
              (fun p => p.after (fun u => if u ∈ k.earmarked then p.returned u else p.positions.get u))) with
          waitList := before ++ after
          claims := cs ++ ds
          sessions := Vector.ofFn (fun i =>
            ⟨(s.record i).generation, (s.session? i).map (Session.releasedBy e.name)⟩) }))

/-- A frame that finds the store of an ATTACHED link full stalls the link, whichever frame it is: a frame queued on such a link makes it HALTED, empties its store and is counted and raised, and no other frame stalls anything. Whenever an event has stalled a link, its
release sequence has at the end of the event taken back everything its tenant held. So it is with the LAPSE of a session, a TIMED-OUT, a second ACCEPTED, a FRACTION that replaces none, a DISPLACED, a VACATE and a REFUSED-NOT-READY (R110, R136, R137, R145, R147). The release
sequence of a victim's tenant in the event that made the claim is log entry 29. -/
def Obligations.StallTakesAllBack : Prop :=
  (∀ (l : Link) (g : OutFrame) (s : State),
    ((s.link l).state ≠ .attached → queueFrame l g s = s) ∧
    ((s.link l).state = .attached → (s.link l).outbound.length < 128 →
      queueFrame l g s = s.modLink l (fun r => { r with outbound := r.outbound ++ [g] })) ∧
    ((s.link l).state = .attached → 128 ≤ (s.link l).outbound.length → queueFrame l g s = { s with
      links := vmod s.links l (fun r => { r with state := .halted, outbound := [], sending := none })
      marks := s.marks ||| 3#9
      counters := vmod s.counters (tenantCounterNo .stall l) (fun n => min 65535 (n + 1))
      work := { s.work with stalled := s.work.stalled ++ [l] } })) ∧
  (∀ (c : Instr) (l : Link) (s t : State), BooksInv s → LinkInv s → exec c s = .next t → (s.link l).state = .attached →
    (t.link l).state = .halted → (t.link l).enable = true → Stalled l s t) ∧
  ∀ (l : Link) (s : State), Ready s → BooksInv s → (s.link l).state = .attached → 128 ≤ (s.link l).outbound.length →
    let stalls := fun (c : Instr) => ∃ t, exec c s = .next t ∧ Stalled l s t
    let stallsAlone := fun (c : Instr) => ∃ t, exec c s = .next t ∧ Stalled l s t ∧ DepartureKeeps s t ∧ t.port = s.port
    (∀ i y d, s.session? i = some y → y.tenant = l → d ≤ s.timeBase →
      (y.state = .offered d → stallsAlone (.offerExpiry i)) ∧
      (y.state = .active (some d) → (s.classPolicy y.cls).onset < (s.meter y.sector).ratio → stallsAlone (.holdExpiry i)) ∧
      (∀ k, y.state = .reclaiming d k → stalls (.reclaimExpiry i))) ∧
    (∀ e ∈ s.waitList, ∀ d, e.tenant = l → e.waitDeadline = some d → d ≤ s.timeBase → stallsAlone (.waitExpiry l e.tag)) ∧
    (∀ tag cls, (s.link l).lock = true → stallsAlone (.join l tag cls)) ∧
    (∀ sec start, (s.meter sec).state = .counting start → start + (s.meter sec).length * 10 ≤ s.timeBase →
      ((s.link l).outbound.drop (s.link l).begun).any (OutFrame.isFractionOf sec) = false → stalls (.windowEnd sec)) ∧
    (∀ m x f c sec before after d, AskWaits m x f c sec s → c.counted = false → s.waitList.length = 256 →
      StandsIn before d after s → d.tenant = l → d.state = .queued → c.index < d.cls.index →
      (∀ e ∈ before ++ after, e.state = .queued → e.cls.index ≤ d.cls.index) →
      (∀ e ∈ after, e.state = .queued → e.cls ≠ d.cls) → stalls .ask) ∧
    (∀ m x f c sec, AskWaits m x f c sec s → c.counted = false → s.waitList.length < 256 →
      roomFor m c sec f.units s = false → s.claims.length < 16 →
      let vs := chooseVictims (s.entryFor m f c sec .queued) s
      f.units - (s.sector sec).usable c ≤ unitsOf vs → (∃ v ∈ vs, v.2.tenant = l) → stalls .ask) ∧
    (∀ device, Addressed device s → s.run = .active → (∃ e ∈ s.waitList, e.tenant = l) →
      stalls (.transitionToStandby device))

/-! ### Load Meters -/

/-- WINDOW_END computes S, A, L and the fractions of the closing window with the settings in force during it, applies the pending settings, begins the next window with a count of 0 and its length by
the adaptive rule, and raises METER (R103 to R107, R109). -/
def Obligations.WindowEndFigures : Prop :=
  ∀ (sec : Sector) (start : Nat) (s : State), s.resetLow = false → (s.meter sec).state = .counting start →
    start + (s.meter sec).length * 10 ≤ s.timeBase → (s.sector sec).effective.weight ≤ 16 →
    let m := s.meter sec
    let p := (s.sector sec).effective
    let next := (s.sector sec).pending.window
    let sample := min 65535 (m.count * 100 / m.length)
    ∃ t, exec (.windowEnd sec) s = .next t ∧
      ((t.meter sec).smoothed : Int) = m.smoothed + Int.tdiv ((16 * sample - m.smoothed) * p.weight) 16 ∧
      (t.meter sec).ratio = min 4095 ((t.meter sec).smoothed * 16 / p.target) ∧
      (t.meter sec).fractions.get 0 = 256 ∧
      (∀ c : Cls, c ≠ .emergency → (t.meter sec).fractions.get c.index =
        if (t.meter sec).ratio ≤ (s.classPolicy c).onset then 256
        else max (s.classPolicy c).floor (256 * (s.classPolicy c).onset / (t.meter sec).ratio)) ∧
      (t.meter sec).count = 0 ∧
      (t.meter sec).length =
        (if p.adaptive then
          min next (if 2 * p.target ≤ sample then max 5 (m.length / 2)
            else if 2 * sample ≤ p.target then min next (2 * m.length) else m.length)
        else next) ∧
      (∀ i, i ≠ sec → t.meter i = s.meter i) ∧ (t.sector sec).effective = (s.sector sec).pending ∧
      t.marks.getLsbD 8 = true

/-- WINDOW_END applies the pending settings: a capacity cut to a non-zero value refuses the sector's entries whose units exceed it and a closure all of them, with REFUSED-INVALID and REFUSED-CLOSED in list order, counted, their tags free and their claims ended, whatever else
waits. Where no other entry of the sector waits and no entry elsewhere is marked for a claim slot it frees, its positions follow the new capacity with the ended claims' earmarks given up, their victims stay RECLAIMING without a claim reference, CAPACITY is raised if positions
are left over, a FRACTION of the new figures is queued or replaced on every ATTACHED link, the next window starts where this one ended, and nothing else changes but the meter. The service run then goes over the FREE positions of the new capacity: without a claim in the sector it
grants the QUEUED entries that are not refused, in the order and to the extent of wait service; with one claim and no such entry it earmarks for the claim what its class allows, and the claim waits on or, with its need met and no entry marked, completes. The GRANTED frames
stand behind the refusals and before the FRACTION (R3, R13 to R16, R53, R72 to R75, R90, R91, R93, R103, R110). The start of the next window is the choice of log entry 3, CAPACITY judged after the earmarks are given up and raised at a capacity that stays 0 the inferences of log
entries 15 and 16, and an idle link begins to send when the event is complete (R136; log entry 22). -/
def Obligations.WindowEndAppliesAndPublishes : Prop :=
  ∀ (sec : Sector) (start : Nat) (s : State), Ready s → BooksInv s → (s.meter sec).state = .counting start →
    start + (s.meter sec).length * 10 ≤ s.timeBase →
    let refused := s.waitList.filter (refusedBy sec s)
    let ended := s.claims.filter (fun k => k.sector = sec)
    let outcome := if (s.sector sec).pending.capacity = 0 then ReplyOutcome.refusedClosed else .refusedInvalid
    let counters := (refused.foldl (fun s e => countClass .refused e.cls s) s).counters
    (∃ t, exec (.windowEnd sec) s = .next t ∧
      (∀ e ∈ refused, (∀ d ∈ t.waitList, d.name ≠ e.name) ∧ (∀ k ∈ t.claims, k.claimant ≠ e.name) ∧
        (t.link e.tenant).tags.get (tagIndex e.tag) = false) ∧
      ∀ c, t.counters.get (classCounterNo .refused c) = counters.get (classCounterNo .refused c)) ∧
    ((∀ e ∈ s.waitList, e.sector = sec → e ∈ refused) →
      (ended = [] ∨ ∀ e ∈ s.waitList, e.sector ≠ sec → e.claimPending = false) →
      (∀ l, (s.link l).state = .attached → Roomy l (refused.length + 1) s) →
      ∃ t, exec (.windowEnd sec) s = .next t ∧ t.sector sec = (s.sector sec).applied.givenBack ended ∧
        (∀ i, i ≠ sec → t.sector i = s.sector i) ∧ t.waitList = s.waitList.filter (fun e => e.sector ≠ sec) ∧
        t.claims = s.claims.filter (fun k => k.sector ≠ sec) ∧
        (∀ i, t.record i = ⟨(s.record i).generation, (s.session? i).map (Session.unreferenced ended)⟩) ∧
        t.counters = counters ∧
        t.marks = (s.marks ||| (if (s.sector sec).leftOver (t.sector sec) then 128#9 else 0#9)) ||| 256#9 ∧
        (∀ l, t.link l = { ((s.link l).published (answersTo l outcome refused) sec
            ⟨(t.sector sec).freeCount, (t.meter sec).ratio, (t.meter sec).fractions⟩) with
          tags := (s.link l).untagged l refused }) ∧
        (t.meter sec).state = .counting (start + (s.meter sec).length * 10) ∧ (∀ i, i ≠ sec → t.meter i = s.meter i) ∧
        t = { s with
          sectors := t.sectors, meters := t.meters, links := t.links, marks := t.marks, waitList := t.waitList
          claims := t.claims, sessions := t.sessions, counters := t.counters, work := EventWork.none }) ∧
    (let p := (s.sector sec).applied
     let granted := grantedInTurn p (fun t => (s.tenantPolicy t).cap) p.freeCount p.holdings.get
       ((waitingFor sec s).filter (fun e => !refusedBy sec s e))
     ∀ js, (∀ k ∈ s.claims, k.sector ≠ sec) → LowestRecords js s → js.length = granted.length →
      (∀ l, (s.link l).state = .attached → Roomy l (refused.length + granted.length + 1) s) →
      let handle := fun (j : RecordIndex) => (⟨j, (s.record j).generation⟩ : Handle)
      ∃ (uss : List (List UnitNo)) (t : State), exec (.windowEnd sec) s = .next t ∧
        uss.map List.length = granted.map WaitEntry.units ∧ LowestUnits uss.flatten (granted.map WaitEntry.units).sum p ∧
        (let gs := granted.zip (js.zip uss)
         (∀ g ∈ gs, t.record g.2.1 =
            ⟨(s.record g.2.1).generation, some (s.granted g.1.tenant g.1.cls sec g.2.2)⟩ ∧
            ∀ v ∈ g.2.2, (t.sector sec).positions.get v = .held (handle g.2.1)) ∧
         WindowClosed sec start (fun l => answersTo l outcome refused ++ (gs.filter (fun g => g.1.tenant = l)).map (fun g =>
           .replyGranted g.1.tag g.1.cls.byte (handle g.2.1) sec g.2.2)) (refused ++ granted) s t) ∧
        (∀ i, i ∉ js → t.record i = s.record i) ∧
        (∀ v, v ∉ uss.flatten → (t.sector sec).positions.get v = p.positions.get v) ∧
        t.sector sec = { p with
          positions := (t.sector sec).positions
          holdings := (granted.foldl (fun q e => q.holding e.cls e.tenant (· + e.units)) p).holdings } ∧
        t.claims = s.claims ∧
        t.counters = (granted.foldl (fun s e => countClass .granted e.cls s) { s with counters := counters }).counters) ∧
    ∀ (before after : List Claim) (k : Claim) (e : WaitEntry), s.claims = before ++ k :: after → k.sector = sec →
      k.cls.counted = false → k.earmarked.length < k.need →
      (∀ m ∈ before ++ after, m.claimant ≠ k.claimant ∧ m.sector ≠ sec) →
      e ∈ s.waitList → e.name = k.claimant → e ∉ refused →
      (∀ d ∈ s.waitList, d.sector = sec → d.state = .queued → d ∈ refused) →
      (∀ l, (s.link l).state = .attached → Roomy l (refused.length + 2) s) →
      let p := (s.sector sec).applied
      let need := k.need - k.earmarked.length
      let allowed := match k.cls with
        | .emergency => p.freeCount
        | _ => p.freeCount - p.effective.emergencyReserve
      ∃ us mark : List UnitNo, LowestUnits us (min need allowed) p ∧ mark.Pairwise (· ≤ ·) ∧ mark.Perm (k.earmarked ++ us) ∧
        (allowed < need → ∃ t, exec (.windowEnd sec) s = .next t ∧
          WindowClosed sec start (fun l => answersTo l outcome refused) refused s t ∧
          t.sector sec = p.after (fun v => if v ∈ us then .earmarked k.claimant else p.positions.get v) ∧
          t.sessions = s.sessions ∧ t.claims = before ++ { k with earmarked := mark } :: after ∧ t.counters = counters) ∧
        ∀ j, need ≤ allowed → LowestRecords [j] s → (∀ d ∈ s.waitList, d.claimPending = false) →
          let h : Handle := ⟨j, (s.record j).generation⟩
          let granted := OutFrame.replyGranted k.claimant.tag k.cls.byte h sec mark
          ∃ t, exec (.windowEnd sec) s = .next t ∧
            WindowClosed sec start (fun l => answersTo l outcome refused ++ (if l = e.tenant then [granted] else []))
              (refused ++ [e]) s t ∧
            t.sector sec = p.after (fun v => if v ∈ mark then .held h else p.positions.get v) ∧
            t.record j = ⟨h.generation, some (s.granted e.tenant k.cls sec mark)⟩ ∧
            (∀ i, i ≠ j → t.record i = ⟨(s.record i).generation, (s.session? i).map (Session.releasedBy k.claimant)⟩) ∧
            t.claims = before ++ after ∧ t.counters = (countClass .granted k.cls { s with counters := counters }).counters

/-! ### RUN and TENANT-ENABLE -/

/-- TRANSITION_TO_ACTIVE from STANDBY, with the empty Wait List and Claim Table STANDBY has: every sector's pending settings are applied, every meter starts a fresh window of its sector's window length and keeps A, L and its
fractions, and no frame is sent; a RUN bit equal to the present state changes nothing but the port (R13, R113, R152, R153). CAPACITY at a capacity that stays 0 is the model's inference, log entry 16. That the row is a whole access, with the port as it leaves it, is the choice of log entries 7 and 8. -/
def Obligations.ActiveAppliesSettings : Prop :=
  ∀ (device : BusAddress) (s : State), Addressed device s →
    let port := { s.port with transaction := some .write, acknowledged := true, pointer := 0x01 }
    (s.run = .standby → s.waitList = [] → s.claims = [] →
      exec (.transitionToActive device) s = .next { s with
        run := .active
        sectors := Vector.ofFn (fun i => (s.sector i).applied)
        meters := Vector.ofFn (fun i => { s.meter i with
          state := .counting s.timeBase, count := 0, length := (s.sector i).pending.window })
        marks := s.marks ||| (if (List.finRange 8).any (fun i => (s.sector i).leftOver (s.sector i).applied) then 128#9 else 0#9)
        port := port
        work := EventWork.none }) ∧
    (s.run = .active → exec (.transitionToActive device) s = .next { s with port := port, work := EventWork.none }) ∧
    (s.run = .standby → exec (.transitionToStandby device) s = .next { s with port := port, work := EventWork.none })

/-- TRANSITION_TO_STANDBY from ACTIVE: every entry, QUEUED or CLAIMING, is answered REFUSED-NOT-READY in list order and counted, the list and the entries' tags are cleared, and then every claim ends, its earmark given up and its victims left RECLAIMING without a claim reference;
nothing is granted, and the meters stop with their figures held (R53, R70, R93, R112, R154). An idle link begins to send when the event is complete (R136; log entry 22), and that the row is a whole access is the choice of log entries 7 and 8. -/
def Obligations.StandbyRefusesWaiting : Prop :=
  ∀ (device : BusAddress) (s : State), Addressed device s → s.run = .active → BooksInv s →
    (∀ e ∈ s.waitList, Roomy e.tenant s.waitList.length s) →
    ∃ t, exec (.transitionToStandby device) s = .next t ∧ t.run = .standby ∧ t.waitList = [] ∧ t.claims = [] ∧
      (∀ i, t.sector i = (s.sector i).givenBack (s.claims.filter (fun k => k.sector = i))) ∧
      (∀ i, t.record i = ⟨(s.record i).generation, (s.session? i).map (Session.unreferenced s.claims)⟩) ∧
      (∀ i, t.meter i = { s.meter i with state := .stopped }) ∧
      t.counters = (s.waitList.foldl (fun s e => countClass .refused e.cls s) s).counters ∧
      (∀ l, t.link l = { (s.link l).after (answersTo l .refusedNotReady s.waitList) 0 with
        tags := (s.link l).untagged l s.waitList }) ∧
      t = { s with
        run := .standby, waitList := [], claims := [], sectors := t.sectors, sessions := t.sessions
        meters := t.meters, counters := t.counters, links := t.links
        port := { s.port with transaction := some .write, acknowledged := true, pointer := 0x01 }
        work := EventWork.none }

/-- CLEAR_POOL: sessions, entries and claims go without a notice, generations of records in use advance, positions and meters start anew, ATTACHED links become PRESENT with CLEARED alone in their stores, and the configuration is kept. The RUN bit written with it is applied to the cleared part: with
the present RUN state it changes nothing more; with a change to ACTIVE the pending sector settings are applied and every meter starts; with a change to STANDBY the meters stop, and no REFUSED-NOT-READY is sent (R13, R17, R59, R112 to R114, R138, R148, R152 to R155). An idle link begins
to send when the event is complete (R136; log entry 22), and that the row is a whole access, with the port as it leaves it, is the choice of log entries 7 and 8. -/
def Obligations.PoolCleared : Prop :=
  ∀ (device : BusAddress) (runBit : Bool) (s : State), Addressed device s →
    (∀ l, (s.link l).state = .attached → (s.link l).lock = true) →
    let starts : Bool := runBit && s.run = .standby
    let stops : Bool := !runBit && s.run = .active
    let settings := fun (i : Sector) => if starts then (s.sector i).pending else (s.sector i).effective
    ∃ t, exec (.clearPool device runBit) s = .next t ∧ t.waitList = [] ∧ t.claims = [] ∧
      t.run = (if runBit then .active else .standby) ∧
      (∀ i, t.session? i = none ∧
        (t.record i).generation = (s.record i).generation + (if (s.session? i).isSome then 1 else 0)) ∧
      (∀ i, (t.sector i).effective = settings i ∧ (t.sector i).pending = (s.sector i).pending ∧
        (∀ u : UnitNo, (t.sector i).positions.get u = if u.val < (settings i).capacity then .free else .retired) ∧
        ∀ m, (t.sector i).holdings.get m = 0) ∧
      (∀ i, t.meter i = ⟨(if starts then .counting s.timeBase
          else if stops || (s.meter i).state = .stopped then .stopped else .counting s.timeBase),
        (settings i).window, 0, 0, 0, #v[256, 256, 256, 256]⟩) ∧
      (∀ l, let r := s.link l
        t.link l = (if r.state = .attached then
            { r with
              state := .present, priorityLane := [], ordinaryLane := [], allotment := 0, balance := 0, owed := 0
              tags := Vector.replicate 256 false, outbound := [.cleared]
              sending := some ⟨0, OutFrame.cleared.bytes 0⟩ }
          else
            { r with
              priorityLane := [], ordinaryLane := [], allotment := 0, balance := 0, owed := 0
              tags := Vector.replicate 256 false, outbound := [], sending := none })) ∧
      t.marks = s.marks ||| (if ∃ l, (s.link l).state = .attached then 1#9 else 0#9) ∧
      t.arbiter = { s.arbiter with priorityCount := 0 } ∧
      t = { s with
        run := t.run, waitList := [], claims := [], sessions := t.sessions, sectors := t.sectors, meters := t.meters
        links := t.links, marks := t.marks, arbiter := t.arbiter
        port := { s.port with transaction := some .write, acknowledged := true, pointer := 0x01 }
        work := EventWork.none }

/-- TENANT_ENABLE that clears the enable of no ATTACHED link: each enable takes its bit, a cleared one halts an ABSENT or PRESENT link and empties its store, a set one returns a HALTED link by its lock input, and LINK is raised if any
link changes (R144). That the row is a whole access, with the port as it leaves it, is the choice of log entries 7 and 8. -/
def Obligations.TenantEnableWritten : Prop :=
  ∀ (device : BusAddress) (v : Byte) (s : State), Addressed device s →
    (∀ l : Link, v.getLsbD l.val = false → (s.link l).state ≠ .attached) →
    (∀ l, (s.link l).state = .halted → (s.link l).outbound = []) →
    let written := fun (l : Link) => let r := s.link l
      if v.getLsbD l.val then
        { r with
          enable := true
          state := if r.state = .halted then (if r.lock then .present else .absent) else r.state }
      else if r.state = .halted then { r with enable := false }
      else { r with enable := false, state := .halted, outbound := [], sending := none }
    exec (.tenantEnable device v) s = .next { s with
      links := Vector.ofFn written
      marks := s.marks ||| (if ∃ l, (written l).state ≠ (s.link l).state then 1#9 else 0#9)
      port := { s.port with transaction := some .write, acknowledged := true, pointer := 0x02 }
      work := EventWork.none }

/-! ### The registers -/

/-- REGISTER_POINTER_WRITE sets the pointer and opens a write transaction; a transaction that names another device address is not acknowledged and its rest is ignored; REGISTER_WRITE in a write transaction moves the pointer on by one, from FFh to 00h, but
not at WINDOW-DATA, COUNTER-SELECT takes the byte, and a read-only or unlisted register ignores it (R150, R151, R171). A row that names a register does what a write transaction with the register's address does, followed by the byte or by a repeated start
and a read of one byte (that each such row stands for a whole transaction is the model's choice, log entry 7). -/
def Obligations.Transactions : Prop :=
  (∀ (device : BusAddress) (a : Byte) (s : State), Addressed device s →
    exec (.registerPointerWrite device a) s = .next { s with
      port := { s.port with transaction := some .write, acknowledged := true, pointer := a }, work := EventWork.none }) ∧
  (∀ (c : Instr) (device : BusAddress) (s : State), s.resetLow = false → c.device? = some device →
    ¬ (device = 0b10110#5 ++ BitVec.ofBool s.port.adr1 ++ BitVec.ofBool s.port.adr0) →
    exec c s = .next { s with port := { s.port with transaction := none, acknowledged := false } }) ∧
  (∀ (v : Byte) (more : Bool) (s : State), s.resetLow = false →
    (s.port.transaction ≠ some .write →
      exec (.registerWrite v) s = .next { s with port := { s.port with acknowledged := false } }) ∧
    (s.port.transaction ≠ some .read →
      exec (.registerRead none more) s = .next { s with port := { s.port with acknowledged := false } })) ∧
  (∀ (v : Byte) (s : State), Ready s → s.port.transaction = some .write →
    let a := s.port.pointer
    let next : Byte := if a = 0x12 then a else a + 1
    (∃ t, exec (.registerWrite v) s = .next t ∧ t.port.pointer = next ∧ t.port.acknowledged = true ∧
      t.port.transaction = some .write) ∧
    (a ∉ ([0x00, 0x01, 0x05, 0x06, 0x07, 0x10, 0x11, 0x12] : List Byte) →
      exec (.registerWrite v) s = .next { s with
        port := { s.port with pointer := next, acknowledged := true }, work := EventWork.none }) ∧
    (a = 0x07 → exec (.registerWrite v) s = .next { s with
      port := { s.port with pointer := next, acknowledged := true, counterSelect := v }, work := EventWork.none })) ∧
  (∀ (c : Instr) (device : BusAddress) (a : Byte) (s t : State), Addressed device s →
      exec (.registerPointerWrite device a) s = .next t →
      (∀ v, c.asWrite = some (device, a, v) → exec c s = exec (.registerWrite v) t) ∧
      (∀ more, c.asRead = some (device, a, more) → exec c s = exec (.registerRead (some device) more) t))

/-- REGISTER_READ of a register whose read has no side effect returns its contents and changes nothing but the port: RUN, TENANT-ENABLE, LINK-STATE, EVENT-MASK, COUNTER-SELECT, the latch, the first fault bytes, the selections, and 00h for an unlisted
address; the pointer advances (R150, R151, R156, R169, R171, R173). That the row is a whole access, with the port as it leaves it, is the choice of log entries 7 and 8. -/
def Obligations.PlainRegistersRead : Prop :=
  ∀ (start : Option BusAddress) (more : Bool) (s : State), Ready s →
    (∀ d, start = some d → Addressed d s) → (start = none → s.port.transaction = some .read) →
    let a := s.port.pointer
    let reads := fun (v : Byte) => exec (.registerRead start more) s = .next { s with
      port := { s.port with
        pointer := a + 1, dataOut := v, transaction := if more then some .read else none
        acknowledged := if start = none then s.port.acknowledged else true }
      work := EventWork.none }
    (a = 0x00 → reads (if s.run = .active then 0x01 else 0x00)) ∧
    (a = 0x01 → ∃ v : Byte, reads v ∧ v.extractLsb' 4 4 = 0 ∧ ∀ l : Link, v.getLsbD l.val = (s.link l).enable) ∧
    (a = 0x02 → ∃ v : Byte, reads v ∧ ∀ l : Link, v.extractLsb' (2 * l.val) 2 =
      match (s.link l).state with
      | .absent => 0#2
      | .present => 1#2
      | .attached => 2#2
      | .halted => 3#2) ∧
    (a = 0x05 → reads (s.mask.extractLsb' 0 8)) ∧ (a = 0x06 → reads ((s.mask.extractLsb' 8 1).zeroExtend 8)) ∧
    (a = 0x07 → reads s.port.counterSelect) ∧ (a = 0x09 → reads s.port.latch) ∧
    (∀ g, s.fault.held = some g →
      (a = 0x0A → reads (if s.fault.overflow then 0x03 else 0x01)) ∧
      (a = 0x0B → reads (BitVec.ofNat 8 g.tenant.val)) ∧ (a = 0x0C → reads g.kind)) ∧
    (a = 0x10 ∨ a = 0x11 → ∃ v : Byte, reads v ∧
      let x := if a = 0x10 then s.port.window.readSelect else s.port.window.writeSelect
      v.toNat = x.table.val * 32 + x.entry.val) ∧
    (0x14 ≤ a.toNat ∨ a = 0x0E ∨ a = 0x0F → reads 0x00)

/-! ### Events, counters, fault record -/

/-- EVENT_SUMMARY_READ returns the marks of its byte and clears them, and leaves those of the other byte; EVENT_MASK_WRITE replaces its byte of the mask, of the second byte bit 0 alone, and the attention output is low exactly while a kind has both its
mark and its mask bit set (R168, R169). That the row is a whole access, with the port as it leaves it, is the choice of log entries 7 and 8. -/
def Obligations.SummaryAndMask : Prop :=
  (∀ (device : BusAddress) (second more : Bool) (s : State), Addressed device s →
    ∃ t, exec (.eventSummaryRead device second more) s = .next t ∧
      (∀ b : Fin 9, t.marks.getLsbD b.val = if decide (b.val = 8) = second then false else s.marks.getLsbD b.val) ∧
      (∀ b : Fin 8, t.port.dataOut.getLsbD b.val =
        if second then decide (b.val = 0) && s.marks.getLsbD 8 else s.marks.getLsbD b.val) ∧
      t = { s with
        marks := t.marks
        port := { s.port with
          pointer := if second then 0x05 else 0x04, dataOut := t.port.dataOut, acknowledged := true
          transaction := if more then some .read else none }
        work := EventWork.none }) ∧
  (∀ (device : BusAddress) (second : Bool) (v : Byte) (s : State), Addressed device s →
    ∃ t, exec (.eventMaskWrite device second v) s = .next t ∧
      (∀ b : Fin 9, t.mask.getLsbD b.val =
        if second then (if b.val = 8 then v.getLsbD 0 else s.mask.getLsbD b.val)
        else (if b.val = 8 then s.mask.getLsbD 8 else v.getLsbD b.val)) ∧
      (attentionLow t = true ↔ ∃ b : Fin 9, s.marks.getLsbD b.val = true ∧ t.mask.getLsbD b.val = true) ∧
      t = { s with
        mask := t.mask
        port := { s.port with
          pointer := if second then 0x07 else 0x06, acknowledged := true, transaction := some .write }
        work := EventWork.none })

/-- COUNTER_DATA_LOW_READ returns the low byte of the selected counter, puts its high byte in the latch and clears the counter; with no counter selected it returns 00h, sets the latch to 00h and clears nothing. FAULT_RECORD_REASON_READ returns the
reason's code and frees the record; a free record takes the next offer whole, and one that is held keeps its fault and sets the overflow mark (R171, R172, R173). That the row is a whole access, with the port as it leaves it, is the choice of log entries 7 and 8. -/
def Obligations.CountersAndFaultRead : Prop :=
  (∀ (device : BusAddress) (more : Bool) (s : State), Addressed device s →
    let read := fun (low high : Byte) (counters : Vector Nat 48) => exec (.counterDataLowRead device more) s = .next { s with
      counters := counters
      port := { s.port with
        pointer := 0x09, dataOut := low, latch := high, acknowledged := true
        transaction := if more then some .read else none }
      work := EventWork.none }
    (∀ n : Fin 48, n.val = s.port.counterSelect.toNat → s.counters.get n ≤ 65535 → ∃ low high : Byte,
      read low high (vput s.counters n 0) ∧ high.toNat * 256 + low.toNat = s.counters.get n) ∧
    (48 ≤ s.port.counterSelect.toNat → read 0x00 0x00 s.counters)) ∧
  (∀ (device : BusAddress) (more : Bool) (s : State), Addressed device s →
    exec (.faultRecordReasonRead device more) s = .next { s with
      fault := ⟨none, false⟩
      port := { s.port with
        pointer := 0x0E, acknowledged := true, transaction := if more then some .read else none
        dataOut := match s.fault.held with
          | none => 0x00
          | some g => match g.reason with
            | .check => 0x01
            | .kind => 0x02
            | .overrun => 0x03
            | .notAttached => 0x04 }
      work := EventWork.none }) ∧
  (∀ (r : FaultRecord) (g : LinkFault),
    (r.held = none → r.offer g = ⟨some g, false⟩) ∧ (∀ h, r.held = some h → r.offer g = ⟨some h, true⟩))

/-! ### The entry window -/

/-- WINDOW_SELECT_READ and WINDOW_SELECT_WRITE set their selection, with the entry index modulo the entries of its table and 0 for tables 6 and 7, and the mode, put the pointer at 0 and abandon a staged entry; WINDOW_STATUS_READ returns mode, ignored mark
and pointer, and then puts the pointer at 0 and abandons a staged entry. WINDOW_DATA_WRITE: in write mode a byte before the entry's last is staged and changes nothing else; in read mode, and for tables 6 and 7, it is ignored; the last byte of a Sector Live
entry stores nothing and sets the ignored mark (R156 to R160). That the row is a whole access, with the port as it leaves it, is the choice of log entries 7 and 8. -/
def Obligations.EntryWindowDriven : Prop :=
  (∀ (device : BusAddress) (v : Byte) (s : State), Addressed device s →
    ∃ x : Selection, x.table.val = v.toNat / 32 ∧
      x.entry.val = (v.toNat % 32) % (match v.toNat / 32 with
        | 0 | 5 => 8
        | 1 | 2 => 4
        | 3 => 32
        | _ => 1) ∧
      exec (.windowSelectRead device v) s = .next { s with
        port := { s.port with
          pointer := 0x11, acknowledged := true, transaction := some .write
          window := { s.port.window with mode := .read, readSelect := x, pointer := 0, staging := [] } }
        work := EventWork.none } ∧
      exec (.windowSelectWrite device v) s = .next { s with
        port := { s.port with
          pointer := 0x12, acknowledged := true, transaction := some .write
          window := { s.port.window with mode := .write, writeSelect := x, pointer := 0, staging := [] } }
        work := EventWork.none }) ∧
  (∀ (device : BusAddress) (more : Bool) (s : State), Addressed device s → s.port.window.pointer < 32 →
    ∃ v : Byte, v.toNat = s.port.window.pointer * 4 + (if s.port.window.ignored then 2 else 0)
        + (if s.port.window.mode = .write then 1 else 0) ∧
      exec (.windowStatusRead device more) s = .next { s with
        port := { s.port with
          pointer := 0x14, acknowledged := true, dataOut := v, transaction := if more then some .read else none
          window := { s.port.window with pointer := 0, staging := [] } }
        work := EventWork.none }) ∧
  (∀ (device : BusAddress) (v : Byte) (s : State), Addressed device s →
      let w := s.port.window
      let n := tableFields w.writeSelect.table
      let after := fun (w : EntryWindow) => exec (.windowDataWrite device v) s = .next { s with
        port := { s.port with pointer := 0x12, acknowledged := true, transaction := some .write, window := w }
        work := EventWork.none }
      (w.mode = .write → w.staging.length = w.pointer → w.pointer + 1 < n →
        after { w with staging := w.staging ++ [v], pointer := w.pointer + 1 }) ∧
      (w.mode = .read ∨ n = 0 → after w) ∧
      (w.mode = .write → w.writeSelect.table = 5 → n ≤ w.pointer + 1 →
        after { w with
          staging := [], pointer := 0, ignored := true
          writeSelect := ⟨5, ⟨(w.writeSelect.entry.val + 1) % 8, by omega⟩⟩ }))

/-- The last field byte of a Sector entry commits it into the pending copy, clamped in the order of R12 (R11, R12, R157, R161). That the row is a whole access, with the port as it leaves it, is the choice of log entries 7 and 8. -/
def Obligations.SectorEntryCommitted : Prop :=
  ∀ (device : BusAddress) (b0 b1 b2 b3 b4 b5 b6 v : Byte) (sec : Sector) (s : State), Addressed device s →
    s.port.window.mode = .write → s.port.window.writeSelect.table = 0 → s.port.window.writeSelect.entry.val = sec.val →
    s.port.window.pointer = 7 → s.port.window.staging = [b0, b1, b2, b3, b4, b5, b6] →
    let others := (((List.finRange 8).filter (· ≠ sec)).map (fun i =>
      max (s.sector i).pending.capacity (s.sector i).effective.capacity)).sum
    ∃ (capacity re rr target window weight : Nat), capacity = min (min 64 b0.toNat) (384 - others) ∧
      re = min capacity b1.toNat ∧ rr = min (capacity - re) b2.toNat ∧
      target = (if b3.toNat * 256 + b4.toNat = 0 then 1 else b3.toNat * 256 + b4.toNat) ∧
      window = (if b5.toNat < 5 then 5 else b5.toNat) ∧
      weight = (if b6.toNat = 0 then 1 else if 16 < b6.toNat then 16 else b6.toNat) ∧
      exec (.windowDataWrite device v) s = .next { (s.modSector sec (fun p =>
          { p with pending := ⟨capacity, re, rr, target, window, weight, v != 0⟩ })) with
        port := { s.port with
          pointer := 0x12, acknowledged := true, transaction := some .write
          window := { s.port.window with
            staging := [], pointer := 0, ignored := false
            writeSelect := ⟨0, ⟨(sec.val + 1) % 8, by omega⟩⟩ } }
        work := EventWork.none }

/-- The last field byte of a Class Policy, Tenant, Beam Map or Global entry commits it at once, clamped; the EMERGENCY entry keeps its fixed fields (R157, R162, R163, R164). That the row is a whole access, with the port as it leaves it, is the choice of log entries 7 and 8. -/
def Obligations.PolicyEntryCommitted : Prop :=
  ∀ (device : BusAddress) (b : List Byte) (v : Byte) (s : State), Addressed device s →
    s.port.window.mode = .write → s.port.window.staging = b → s.port.window.pointer = b.length →
    let byte := fun (i : Nat) => ((b ++ [v]).getD i 0).toNat
    let word := fun (i : Nat) => byte i * 256 + byte (i + 1)
    let w := s.port.window
    let committed := fun (p : Policy) (entries : Nat) => ∃ x : Selection, x.table = w.writeSelect.table ∧
      x.entry.val = (w.writeSelect.entry.val + 1) % entries ∧
      exec (.windowDataWrite device v) s = .next { s with
        policy := p
        port := { s.port with
          pointer := 0x12, acknowledged := true, transaction := some .write
          window := { w with staging := [], pointer := 0, ignored := false, writeSelect := x } }
        work := EventWork.none }
    (∀ c : Cls, w.writeSelect.table = 1 → w.writeSelect.entry.val = c.index.val → b.length = 9 →
      committed { s.policy with
        classes := vput s.policy.classes c.index
          (if c = .emergency then ⟨4095, 256, 0, min 4 (byte 6), word 7, true⟩
          else ⟨min 4095 (word 0), min 256 (word 2), word 4, min 4 (byte 6), word 7, byte 9 != 0⟩) } 4) ∧
    (∀ t : Tenant, w.writeSelect.table = 2 → w.writeSelect.entry.val = t.val → b.length = 1 →
      committed { s.policy with
        tenants := vput s.policy.tenants t
          ⟨min (max 4 (min 192 (byte 0))) (192 - (((List.finRange 4).filter (· ≠ t)).map (fun i =>
          max (s.tenantPolicy i).allotment (s.link i).allotment)).sum), min 64 (byte 1)⟩ } 4) ∧
    (w.writeSelect.table = 3 → b.length = 0 →
      committed { s.policy with
        beams := vput s.policy.beams w.writeSelect.entry
          (if h : v.toNat < 8 then some ⟨v.toNat, h⟩ else none) } 32) ∧
    (w.writeSelect.table = 4 → b.length = 6 →
      committed { s.policy with globals := ⟨max 100 (min 10000 (word 0)), max 100 (min 10000 (word 2)),
        max 500 (min 60000 (word 4)), max 1 (min 32 (byte 6))⟩ } 1)

/-- WINDOW_DATA_READ: in read mode it returns the field byte at the pointer of the selected entry, in the layout of R160, the pending copy of a Sector entry and the live figures of a Sector Live one among them, and moves on, after the last field to the next entry; in write mode, and for tables 6 and 7, it returns 00h and moves nothing; the first byte
of a two-byte live field captures the second (R157, R158, R160, R165). That the row is a whole access, with the port as it leaves it, is the choice of log entries 7 and 8. -/
def Obligations.WindowDataReturned : Prop :=
  ∀ (device : BusAddress) (more : Bool) (s : State), Addressed device s →
    let w := s.port.window
    let x := w.readSelect
    let n := tableFields x.table
    let reads := fun (v : Byte) (w : EntryWindow) => exec (.windowDataRead device more) s = .next { s with
      port := { s.port with
        pointer := 0x12, acknowledged := true, dataOut := v, transaction := if more then some .read else none, window := w }
      work := EventWork.none }
    let low : Bool := x.table = 5 && w.pointer ∈ [6, 9, 11, 13, 15, 17]
    let high : Bool := x.table = 5 && w.pointer ∈ [5, 8, 10, 12, 14, 16]
    let value := if low then w.capture else fieldByte x w.pointer s
    let capture := if high then fieldByte x (w.pointer + 1) s else w.capture
    (w.mode = .read → w.pointer + 1 < n → reads value { w with pointer := w.pointer + 1, capture := capture }) ∧
    (w.mode = .read → 0 < n → n ≤ w.pointer + 1 →
      reads value { w with pointer := 0, readSelect := x.next, capture := capture }) ∧
    (w.mode = .write ∨ n = 0 → reads 0x00 w)

/-! ### Invariants -/

/-- The values after full reset meet every invariant below. The levels the board holds at the reset, the lock inputs low among them, are the
model's choice, log entry 12. -/
def Obligations.ResetMeetsInvariants : Prop :=
  FiguresInv State.reset ∧ PoolInv State.reset ∧ LinkInv State.reset ∧ SizeInv State.reset ∧ BooksInv State.reset ∧
    VictimInv State.reset ∧ RunInv State.reset ∧ AccountsInv State.reset

/-- Every step keeps the settings, tables and meter figures in their ranges and the capacities within 384 (R12, R101, R107, R108, R162 to R164). -/
def Obligations.StepKeepsFigures : Prop := ∀ s t : State, FiguresInv s → step s = .next t → FiguresInv t

/-- Every step keeps R2: no position below the effective capacity is RETIRED and none at or above it is FREE; and, where entries, claims and sessions agree, the accounts of the pool: each HELD position belongs to one record in use that lists it and
each EARMARKED one to one claim that lists it, unit lists are non-empty and ascending, and each holding is the sum of the units counted toward it, so that nothing of a tenant without sessions and claims is HELD, EARMARKED or held against its cap (R1, R2, R9, R40, R43). -/
def Obligations.StepKeepsPool : Prop :=
  (∀ s t : State, PoolInv s → step s = .next t → PoolInv t) ∧
  ∀ s t : State, BooksInv s → AccountsInv s → step s = .next t → AccountsInv t

/-- Every step keeps the links sound: occupancy, owed and balance sum to the allotment of an ATTACHED tenant and a tenant that is not ATTACHED has none; the allotments sum to at most 192 (R126, R127, R136, R139, R144, R163). -/
def Obligations.StepKeepsLinks : Prop := ∀ s t : State, LinkInv s → step s = .next t → LinkInv t

/-- Every step keeps the collections and counts within their sizes (R61, R79, R132, R170, R174). -/
def Obligations.StepKeepsSizes : Prop := ∀ s t : State, SizeInv s → step s = .next t → SizeInv t

/-- Every step keeps entries, tags, claims and sessions in agreement, every claim reference names a claim of its session's sector that lists it, and nothing belongs to a tenant that is not ATTACHED (R35, R61, R62, R80, R134, R147). -/
def Obligations.StepKeepsBooks : Prop := ∀ s t : State, BooksInv s → step s = .next t → BooksInv t

/-- No step makes an EMERGENCY session a victim, and none counts one (R80, R170). -/
def Obligations.StepSparesEmergency : Prop := ∀ s t : State, VictimInv s → step s = .next t → VictimInv t

/-- Every step keeps the meters counting exactly in ACTIVE, and the Wait List and Claim Table empty in STANDBY (R70, R100). -/
def Obligations.StepKeepsRun : Prop := ∀ s t : State, BooksInv s → RunInv s → step s = .next t → RunInv t
end

