-- ==== Sys2Proof/Laws/State.lean ====
section
/-! SUPPORT. One lemma per field per update of the state: an update changes its own field and leaves every other. -/

namespace Sys2Proof.Machine

@[simp] theorem State.modLink_pending (s : State) (l : Link) (f : LinkRec → LinkRec) : (s.modLink l f).pending = s.pending := rfl
@[simp] theorem State.modLink_work (s : State) (l : Link) (f : LinkRec → LinkRec) : (s.modLink l f).work = s.work := rfl
@[simp] theorem State.modLink_resetLow (s : State) (l : Link) (f : LinkRec → LinkRec) : (s.modLink l f).resetLow = s.resetLow := rfl
@[simp] theorem State.modLink_timeBase (s : State) (l : Link) (f : LinkRec → LinkRec) : (s.modLink l f).timeBase = s.timeBase := rfl
@[simp] theorem State.modLink_run (s : State) (l : Link) (f : LinkRec → LinkRec) : (s.modLink l f).run = s.run := rfl
@[simp] theorem State.modLink_sectors (s : State) (l : Link) (f : LinkRec → LinkRec) : (s.modLink l f).sectors = s.sectors := rfl
@[simp] theorem State.modLink_meters (s : State) (l : Link) (f : LinkRec → LinkRec) : (s.modLink l f).meters = s.meters := rfl
@[simp] theorem State.modLink_sessions (s : State) (l : Link) (f : LinkRec → LinkRec) : (s.modLink l f).sessions = s.sessions := rfl
@[simp] theorem State.modLink_waitList (s : State) (l : Link) (f : LinkRec → LinkRec) : (s.modLink l f).waitList = s.waitList := rfl
@[simp] theorem State.modLink_claims (s : State) (l : Link) (f : LinkRec → LinkRec) : (s.modLink l f).claims = s.claims := rfl
@[simp] theorem State.modLink_arbiter (s : State) (l : Link) (f : LinkRec → LinkRec) : (s.modLink l f).arbiter = s.arbiter := rfl
@[simp] theorem State.modLink_policy (s : State) (l : Link) (f : LinkRec → LinkRec) : (s.modLink l f).policy = s.policy := rfl
@[simp] theorem State.modLink_port (s : State) (l : Link) (f : LinkRec → LinkRec) : (s.modLink l f).port = s.port := rfl
@[simp] theorem State.modLink_marks (s : State) (l : Link) (f : LinkRec → LinkRec) : (s.modLink l f).marks = s.marks := rfl
@[simp] theorem State.modLink_mask (s : State) (l : Link) (f : LinkRec → LinkRec) : (s.modLink l f).mask = s.mask := rfl
@[simp] theorem State.modLink_counters (s : State) (l : Link) (f : LinkRec → LinkRec) : (s.modLink l f).counters = s.counters := rfl
@[simp] theorem State.modLink_fault (s : State) (l : Link) (f : LinkRec → LinkRec) : (s.modLink l f).fault = s.fault := rfl
@[simp] theorem State.modLink_sector (s : State) (l : Link) (f : LinkRec → LinkRec) (x : Sector) : (s.modLink l f).sector x = s.sector x := rfl
@[simp] theorem State.modLink_meter (s : State) (l : Link) (f : LinkRec → LinkRec) (x : Sector) : (s.modLink l f).meter x = s.meter x := rfl
@[simp] theorem State.modLink_record (s : State) (l : Link) (f : LinkRec → LinkRec) (x : RecordIndex) : (s.modLink l f).record x = s.record x := rfl

@[simp] theorem State.modSector_pending (s : State) (i : Sector) (f : PoolSector → PoolSector) : (s.modSector i f).pending = s.pending := rfl
@[simp] theorem State.modSector_work (s : State) (i : Sector) (f : PoolSector → PoolSector) : (s.modSector i f).work = s.work := rfl
@[simp] theorem State.modSector_resetLow (s : State) (i : Sector) (f : PoolSector → PoolSector) : (s.modSector i f).resetLow = s.resetLow := rfl
@[simp] theorem State.modSector_timeBase (s : State) (i : Sector) (f : PoolSector → PoolSector) : (s.modSector i f).timeBase = s.timeBase := rfl
@[simp] theorem State.modSector_run (s : State) (i : Sector) (f : PoolSector → PoolSector) : (s.modSector i f).run = s.run := rfl
@[simp] theorem State.modSector_meters (s : State) (i : Sector) (f : PoolSector → PoolSector) : (s.modSector i f).meters = s.meters := rfl
@[simp] theorem State.modSector_sessions (s : State) (i : Sector) (f : PoolSector → PoolSector) : (s.modSector i f).sessions = s.sessions := rfl
@[simp] theorem State.modSector_waitList (s : State) (i : Sector) (f : PoolSector → PoolSector) : (s.modSector i f).waitList = s.waitList := rfl
@[simp] theorem State.modSector_claims (s : State) (i : Sector) (f : PoolSector → PoolSector) : (s.modSector i f).claims = s.claims := rfl
@[simp] theorem State.modSector_links (s : State) (i : Sector) (f : PoolSector → PoolSector) : (s.modSector i f).links = s.links := rfl
@[simp] theorem State.modSector_arbiter (s : State) (i : Sector) (f : PoolSector → PoolSector) : (s.modSector i f).arbiter = s.arbiter := rfl
@[simp] theorem State.modSector_policy (s : State) (i : Sector) (f : PoolSector → PoolSector) : (s.modSector i f).policy = s.policy := rfl
@[simp] theorem State.modSector_port (s : State) (i : Sector) (f : PoolSector → PoolSector) : (s.modSector i f).port = s.port := rfl
@[simp] theorem State.modSector_marks (s : State) (i : Sector) (f : PoolSector → PoolSector) : (s.modSector i f).marks = s.marks := rfl
@[simp] theorem State.modSector_mask (s : State) (i : Sector) (f : PoolSector → PoolSector) : (s.modSector i f).mask = s.mask := rfl
@[simp] theorem State.modSector_counters (s : State) (i : Sector) (f : PoolSector → PoolSector) : (s.modSector i f).counters = s.counters := rfl
@[simp] theorem State.modSector_fault (s : State) (i : Sector) (f : PoolSector → PoolSector) : (s.modSector i f).fault = s.fault := rfl
@[simp] theorem State.modSector_link (s : State) (i : Sector) (f : PoolSector → PoolSector) (x : Link) : (s.modSector i f).link x = s.link x := rfl
@[simp] theorem State.modSector_meter (s : State) (i : Sector) (f : PoolSector → PoolSector) (x : Sector) : (s.modSector i f).meter x = s.meter x := rfl
@[simp] theorem State.modSector_record (s : State) (i : Sector) (f : PoolSector → PoolSector) (x : RecordIndex) : (s.modSector i f).record x = s.record x := rfl

@[simp] theorem State.modMeter_pending (s : State) (i : Sector) (f : Meter → Meter) : (s.modMeter i f).pending = s.pending := rfl
@[simp] theorem State.modMeter_work (s : State) (i : Sector) (f : Meter → Meter) : (s.modMeter i f).work = s.work := rfl
@[simp] theorem State.modMeter_resetLow (s : State) (i : Sector) (f : Meter → Meter) : (s.modMeter i f).resetLow = s.resetLow := rfl
@[simp] theorem State.modMeter_timeBase (s : State) (i : Sector) (f : Meter → Meter) : (s.modMeter i f).timeBase = s.timeBase := rfl
@[simp] theorem State.modMeter_run (s : State) (i : Sector) (f : Meter → Meter) : (s.modMeter i f).run = s.run := rfl
@[simp] theorem State.modMeter_sectors (s : State) (i : Sector) (f : Meter → Meter) : (s.modMeter i f).sectors = s.sectors := rfl
@[simp] theorem State.modMeter_sessions (s : State) (i : Sector) (f : Meter → Meter) : (s.modMeter i f).sessions = s.sessions := rfl
@[simp] theorem State.modMeter_waitList (s : State) (i : Sector) (f : Meter → Meter) : (s.modMeter i f).waitList = s.waitList := rfl
@[simp] theorem State.modMeter_claims (s : State) (i : Sector) (f : Meter → Meter) : (s.modMeter i f).claims = s.claims := rfl
@[simp] theorem State.modMeter_links (s : State) (i : Sector) (f : Meter → Meter) : (s.modMeter i f).links = s.links := rfl
@[simp] theorem State.modMeter_arbiter (s : State) (i : Sector) (f : Meter → Meter) : (s.modMeter i f).arbiter = s.arbiter := rfl
@[simp] theorem State.modMeter_policy (s : State) (i : Sector) (f : Meter → Meter) : (s.modMeter i f).policy = s.policy := rfl
@[simp] theorem State.modMeter_port (s : State) (i : Sector) (f : Meter → Meter) : (s.modMeter i f).port = s.port := rfl
@[simp] theorem State.modMeter_marks (s : State) (i : Sector) (f : Meter → Meter) : (s.modMeter i f).marks = s.marks := rfl
@[simp] theorem State.modMeter_mask (s : State) (i : Sector) (f : Meter → Meter) : (s.modMeter i f).mask = s.mask := rfl
@[simp] theorem State.modMeter_counters (s : State) (i : Sector) (f : Meter → Meter) : (s.modMeter i f).counters = s.counters := rfl
@[simp] theorem State.modMeter_fault (s : State) (i : Sector) (f : Meter → Meter) : (s.modMeter i f).fault = s.fault := rfl
@[simp] theorem State.modMeter_link (s : State) (i : Sector) (f : Meter → Meter) (x : Link) : (s.modMeter i f).link x = s.link x := rfl
@[simp] theorem State.modMeter_sector (s : State) (i : Sector) (f : Meter → Meter) (x : Sector) : (s.modMeter i f).sector x = s.sector x := rfl
@[simp] theorem State.modMeter_record (s : State) (i : Sector) (f : Meter → Meter) (x : RecordIndex) : (s.modMeter i f).record x = s.record x := rfl

@[simp] theorem State.modRecord_pending (s : State) (i : RecordIndex) (f : Record → Record) : (s.modRecord i f).pending = s.pending := rfl
@[simp] theorem State.modRecord_work (s : State) (i : RecordIndex) (f : Record → Record) : (s.modRecord i f).work = s.work := rfl
@[simp] theorem State.modRecord_resetLow (s : State) (i : RecordIndex) (f : Record → Record) : (s.modRecord i f).resetLow = s.resetLow := rfl
@[simp] theorem State.modRecord_timeBase (s : State) (i : RecordIndex) (f : Record → Record) : (s.modRecord i f).timeBase = s.timeBase := rfl
@[simp] theorem State.modRecord_run (s : State) (i : RecordIndex) (f : Record → Record) : (s.modRecord i f).run = s.run := rfl
@[simp] theorem State.modRecord_sectors (s : State) (i : RecordIndex) (f : Record → Record) : (s.modRecord i f).sectors = s.sectors := rfl
@[simp] theorem State.modRecord_meters (s : State) (i : RecordIndex) (f : Record → Record) : (s.modRecord i f).meters = s.meters := rfl
@[simp] theorem State.modRecord_waitList (s : State) (i : RecordIndex) (f : Record → Record) : (s.modRecord i f).waitList = s.waitList := rfl
@[simp] theorem State.modRecord_claims (s : State) (i : RecordIndex) (f : Record → Record) : (s.modRecord i f).claims = s.claims := rfl
@[simp] theorem State.modRecord_links (s : State) (i : RecordIndex) (f : Record → Record) : (s.modRecord i f).links = s.links := rfl
@[simp] theorem State.modRecord_arbiter (s : State) (i : RecordIndex) (f : Record → Record) : (s.modRecord i f).arbiter = s.arbiter := rfl
@[simp] theorem State.modRecord_policy (s : State) (i : RecordIndex) (f : Record → Record) : (s.modRecord i f).policy = s.policy := rfl
@[simp] theorem State.modRecord_port (s : State) (i : RecordIndex) (f : Record → Record) : (s.modRecord i f).port = s.port := rfl
@[simp] theorem State.modRecord_marks (s : State) (i : RecordIndex) (f : Record → Record) : (s.modRecord i f).marks = s.marks := rfl
@[simp] theorem State.modRecord_mask (s : State) (i : RecordIndex) (f : Record → Record) : (s.modRecord i f).mask = s.mask := rfl
@[simp] theorem State.modRecord_counters (s : State) (i : RecordIndex) (f : Record → Record) : (s.modRecord i f).counters = s.counters := rfl
@[simp] theorem State.modRecord_fault (s : State) (i : RecordIndex) (f : Record → Record) : (s.modRecord i f).fault = s.fault := rfl
@[simp] theorem State.modRecord_link (s : State) (i : RecordIndex) (f : Record → Record) (x : Link) : (s.modRecord i f).link x = s.link x := rfl
@[simp] theorem State.modRecord_sector (s : State) (i : RecordIndex) (f : Record → Record) (x : Sector) : (s.modRecord i f).sector x = s.sector x := rfl
@[simp] theorem State.modRecord_meter (s : State) (i : RecordIndex) (f : Record → Record) (x : Sector) : (s.modRecord i f).meter x = s.meter x := rfl

@[simp] theorem State.modEntry_pending (s : State) (k : RequestName) (f : WaitEntry → WaitEntry) : (s.modEntry k f).pending = s.pending := rfl
@[simp] theorem State.modEntry_work (s : State) (k : RequestName) (f : WaitEntry → WaitEntry) : (s.modEntry k f).work = s.work := rfl
@[simp] theorem State.modEntry_resetLow (s : State) (k : RequestName) (f : WaitEntry → WaitEntry) : (s.modEntry k f).resetLow = s.resetLow := rfl
@[simp] theorem State.modEntry_timeBase (s : State) (k : RequestName) (f : WaitEntry → WaitEntry) : (s.modEntry k f).timeBase = s.timeBase := rfl
@[simp] theorem State.modEntry_run (s : State) (k : RequestName) (f : WaitEntry → WaitEntry) : (s.modEntry k f).run = s.run := rfl
@[simp] theorem State.modEntry_sectors (s : State) (k : RequestName) (f : WaitEntry → WaitEntry) : (s.modEntry k f).sectors = s.sectors := rfl
@[simp] theorem State.modEntry_meters (s : State) (k : RequestName) (f : WaitEntry → WaitEntry) : (s.modEntry k f).meters = s.meters := rfl
@[simp] theorem State.modEntry_sessions (s : State) (k : RequestName) (f : WaitEntry → WaitEntry) : (s.modEntry k f).sessions = s.sessions := rfl
@[simp] theorem State.modEntry_claims (s : State) (k : RequestName) (f : WaitEntry → WaitEntry) : (s.modEntry k f).claims = s.claims := rfl
@[simp] theorem State.modEntry_links (s : State) (k : RequestName) (f : WaitEntry → WaitEntry) : (s.modEntry k f).links = s.links := rfl
@[simp] theorem State.modEntry_arbiter (s : State) (k : RequestName) (f : WaitEntry → WaitEntry) : (s.modEntry k f).arbiter = s.arbiter := rfl
@[simp] theorem State.modEntry_policy (s : State) (k : RequestName) (f : WaitEntry → WaitEntry) : (s.modEntry k f).policy = s.policy := rfl
@[simp] theorem State.modEntry_port (s : State) (k : RequestName) (f : WaitEntry → WaitEntry) : (s.modEntry k f).port = s.port := rfl
@[simp] theorem State.modEntry_marks (s : State) (k : RequestName) (f : WaitEntry → WaitEntry) : (s.modEntry k f).marks = s.marks := rfl
@[simp] theorem State.modEntry_mask (s : State) (k : RequestName) (f : WaitEntry → WaitEntry) : (s.modEntry k f).mask = s.mask := rfl
@[simp] theorem State.modEntry_counters (s : State) (k : RequestName) (f : WaitEntry → WaitEntry) : (s.modEntry k f).counters = s.counters := rfl
@[simp] theorem State.modEntry_fault (s : State) (k : RequestName) (f : WaitEntry → WaitEntry) : (s.modEntry k f).fault = s.fault := rfl
@[simp] theorem State.modEntry_link (s : State) (k : RequestName) (f : WaitEntry → WaitEntry) (x : Link) : (s.modEntry k f).link x = s.link x := rfl
@[simp] theorem State.modEntry_sector (s : State) (k : RequestName) (f : WaitEntry → WaitEntry) (x : Sector) : (s.modEntry k f).sector x = s.sector x := rfl
@[simp] theorem State.modEntry_meter (s : State) (k : RequestName) (f : WaitEntry → WaitEntry) (x : Sector) : (s.modEntry k f).meter x = s.meter x := rfl
@[simp] theorem State.modEntry_record (s : State) (k : RequestName) (f : WaitEntry → WaitEntry) (x : RecordIndex) : (s.modEntry k f).record x = s.record x := rfl

@[simp] theorem State.removeEntry_pending (s : State) (k : RequestName) : (s.removeEntry k).pending = s.pending := rfl
@[simp] theorem State.removeEntry_work (s : State) (k : RequestName) : (s.removeEntry k).work = s.work := rfl
@[simp] theorem State.removeEntry_resetLow (s : State) (k : RequestName) : (s.removeEntry k).resetLow = s.resetLow := rfl
@[simp] theorem State.removeEntry_timeBase (s : State) (k : RequestName) : (s.removeEntry k).timeBase = s.timeBase := rfl
@[simp] theorem State.removeEntry_run (s : State) (k : RequestName) : (s.removeEntry k).run = s.run := rfl
@[simp] theorem State.removeEntry_sectors (s : State) (k : RequestName) : (s.removeEntry k).sectors = s.sectors := rfl
@[simp] theorem State.removeEntry_meters (s : State) (k : RequestName) : (s.removeEntry k).meters = s.meters := rfl
@[simp] theorem State.removeEntry_sessions (s : State) (k : RequestName) : (s.removeEntry k).sessions = s.sessions := rfl
@[simp] theorem State.removeEntry_claims (s : State) (k : RequestName) : (s.removeEntry k).claims = s.claims := rfl
@[simp] theorem State.removeEntry_links (s : State) (k : RequestName) : (s.removeEntry k).links = s.links := rfl
@[simp] theorem State.removeEntry_arbiter (s : State) (k : RequestName) : (s.removeEntry k).arbiter = s.arbiter := rfl
@[simp] theorem State.removeEntry_policy (s : State) (k : RequestName) : (s.removeEntry k).policy = s.policy := rfl
@[simp] theorem State.removeEntry_port (s : State) (k : RequestName) : (s.removeEntry k).port = s.port := rfl
@[simp] theorem State.removeEntry_marks (s : State) (k : RequestName) : (s.removeEntry k).marks = s.marks := rfl
@[simp] theorem State.removeEntry_mask (s : State) (k : RequestName) : (s.removeEntry k).mask = s.mask := rfl
@[simp] theorem State.removeEntry_counters (s : State) (k : RequestName) : (s.removeEntry k).counters = s.counters := rfl
@[simp] theorem State.removeEntry_fault (s : State) (k : RequestName) : (s.removeEntry k).fault = s.fault := rfl
@[simp] theorem State.removeEntry_link (s : State) (k : RequestName) (x : Link) : (s.removeEntry k).link x = s.link x := rfl
@[simp] theorem State.removeEntry_sector (s : State) (k : RequestName) (x : Sector) : (s.removeEntry k).sector x = s.sector x := rfl
@[simp] theorem State.removeEntry_meter (s : State) (k : RequestName) (x : Sector) : (s.removeEntry k).meter x = s.meter x := rfl
@[simp] theorem State.removeEntry_record (s : State) (k : RequestName) (x : RecordIndex) : (s.removeEntry k).record x = s.record x := rfl

@[simp] theorem State.modClaim_pending (s : State) (k : RequestName) (f : Claim → Claim) : (s.modClaim k f).pending = s.pending := rfl
@[simp] theorem State.modClaim_work (s : State) (k : RequestName) (f : Claim → Claim) : (s.modClaim k f).work = s.work := rfl
@[simp] theorem State.modClaim_resetLow (s : State) (k : RequestName) (f : Claim → Claim) : (s.modClaim k f).resetLow = s.resetLow := rfl
@[simp] theorem State.modClaim_timeBase (s : State) (k : RequestName) (f : Claim → Claim) : (s.modClaim k f).timeBase = s.timeBase := rfl
@[simp] theorem State.modClaim_run (s : State) (k : RequestName) (f : Claim → Claim) : (s.modClaim k f).run = s.run := rfl
@[simp] theorem State.modClaim_sectors (s : State) (k : RequestName) (f : Claim → Claim) : (s.modClaim k f).sectors = s.sectors := rfl
@[simp] theorem State.modClaim_meters (s : State) (k : RequestName) (f : Claim → Claim) : (s.modClaim k f).meters = s.meters := rfl
@[simp] theorem State.modClaim_sessions (s : State) (k : RequestName) (f : Claim → Claim) : (s.modClaim k f).sessions = s.sessions := rfl
@[simp] theorem State.modClaim_waitList (s : State) (k : RequestName) (f : Claim → Claim) : (s.modClaim k f).waitList = s.waitList := rfl
@[simp] theorem State.modClaim_links (s : State) (k : RequestName) (f : Claim → Claim) : (s.modClaim k f).links = s.links := rfl
@[simp] theorem State.modClaim_arbiter (s : State) (k : RequestName) (f : Claim → Claim) : (s.modClaim k f).arbiter = s.arbiter := rfl
@[simp] theorem State.modClaim_policy (s : State) (k : RequestName) (f : Claim → Claim) : (s.modClaim k f).policy = s.policy := rfl
@[simp] theorem State.modClaim_port (s : State) (k : RequestName) (f : Claim → Claim) : (s.modClaim k f).port = s.port := rfl
@[simp] theorem State.modClaim_marks (s : State) (k : RequestName) (f : Claim → Claim) : (s.modClaim k f).marks = s.marks := rfl
@[simp] theorem State.modClaim_mask (s : State) (k : RequestName) (f : Claim → Claim) : (s.modClaim k f).mask = s.mask := rfl
@[simp] theorem State.modClaim_counters (s : State) (k : RequestName) (f : Claim → Claim) : (s.modClaim k f).counters = s.counters := rfl
@[simp] theorem State.modClaim_fault (s : State) (k : RequestName) (f : Claim → Claim) : (s.modClaim k f).fault = s.fault := rfl
@[simp] theorem State.modClaim_link (s : State) (k : RequestName) (f : Claim → Claim) (x : Link) : (s.modClaim k f).link x = s.link x := rfl
@[simp] theorem State.modClaim_sector (s : State) (k : RequestName) (f : Claim → Claim) (x : Sector) : (s.modClaim k f).sector x = s.sector x := rfl
@[simp] theorem State.modClaim_meter (s : State) (k : RequestName) (f : Claim → Claim) (x : Sector) : (s.modClaim k f).meter x = s.meter x := rfl
@[simp] theorem State.modClaim_record (s : State) (k : RequestName) (f : Claim → Claim) (x : RecordIndex) : (s.modClaim k f).record x = s.record x := rfl

@[simp] theorem State.modPort_pending (s : State) (f : Port → Port) : (s.modPort f).pending = s.pending := rfl
@[simp] theorem State.modPort_work (s : State) (f : Port → Port) : (s.modPort f).work = s.work := rfl
@[simp] theorem State.modPort_resetLow (s : State) (f : Port → Port) : (s.modPort f).resetLow = s.resetLow := rfl
@[simp] theorem State.modPort_timeBase (s : State) (f : Port → Port) : (s.modPort f).timeBase = s.timeBase := rfl
@[simp] theorem State.modPort_run (s : State) (f : Port → Port) : (s.modPort f).run = s.run := rfl
@[simp] theorem State.modPort_sectors (s : State) (f : Port → Port) : (s.modPort f).sectors = s.sectors := rfl
@[simp] theorem State.modPort_meters (s : State) (f : Port → Port) : (s.modPort f).meters = s.meters := rfl
@[simp] theorem State.modPort_sessions (s : State) (f : Port → Port) : (s.modPort f).sessions = s.sessions := rfl
@[simp] theorem State.modPort_waitList (s : State) (f : Port → Port) : (s.modPort f).waitList = s.waitList := rfl
@[simp] theorem State.modPort_claims (s : State) (f : Port → Port) : (s.modPort f).claims = s.claims := rfl
@[simp] theorem State.modPort_links (s : State) (f : Port → Port) : (s.modPort f).links = s.links := rfl
@[simp] theorem State.modPort_arbiter (s : State) (f : Port → Port) : (s.modPort f).arbiter = s.arbiter := rfl
@[simp] theorem State.modPort_policy (s : State) (f : Port → Port) : (s.modPort f).policy = s.policy := rfl
@[simp] theorem State.modPort_marks (s : State) (f : Port → Port) : (s.modPort f).marks = s.marks := rfl
@[simp] theorem State.modPort_mask (s : State) (f : Port → Port) : (s.modPort f).mask = s.mask := rfl
@[simp] theorem State.modPort_counters (s : State) (f : Port → Port) : (s.modPort f).counters = s.counters := rfl
@[simp] theorem State.modPort_fault (s : State) (f : Port → Port) : (s.modPort f).fault = s.fault := rfl
@[simp] theorem State.modPort_link (s : State) (f : Port → Port) (x : Link) : (s.modPort f).link x = s.link x := rfl
@[simp] theorem State.modPort_sector (s : State) (f : Port → Port) (x : Sector) : (s.modPort f).sector x = s.sector x := rfl
@[simp] theorem State.modPort_meter (s : State) (f : Port → Port) (x : Sector) : (s.modPort f).meter x = s.meter x := rfl
@[simp] theorem State.modPort_record (s : State) (f : Port → Port) (x : RecordIndex) : (s.modPort f).record x = s.record x := rfl

@[simp] theorem raise_pending (e : Event) (s : State) : (raise e s).pending = s.pending := rfl
@[simp] theorem raise_work (e : Event) (s : State) : (raise e s).work = s.work := rfl
@[simp] theorem raise_resetLow (e : Event) (s : State) : (raise e s).resetLow = s.resetLow := rfl
@[simp] theorem raise_timeBase (e : Event) (s : State) : (raise e s).timeBase = s.timeBase := rfl
@[simp] theorem raise_run (e : Event) (s : State) : (raise e s).run = s.run := rfl
@[simp] theorem raise_sectors (e : Event) (s : State) : (raise e s).sectors = s.sectors := rfl
@[simp] theorem raise_meters (e : Event) (s : State) : (raise e s).meters = s.meters := rfl
@[simp] theorem raise_sessions (e : Event) (s : State) : (raise e s).sessions = s.sessions := rfl
@[simp] theorem raise_waitList (e : Event) (s : State) : (raise e s).waitList = s.waitList := rfl
@[simp] theorem raise_claims (e : Event) (s : State) : (raise e s).claims = s.claims := rfl
@[simp] theorem raise_links (e : Event) (s : State) : (raise e s).links = s.links := rfl
@[simp] theorem raise_arbiter (e : Event) (s : State) : (raise e s).arbiter = s.arbiter := rfl
@[simp] theorem raise_policy (e : Event) (s : State) : (raise e s).policy = s.policy := rfl
@[simp] theorem raise_port (e : Event) (s : State) : (raise e s).port = s.port := rfl
@[simp] theorem raise_mask (e : Event) (s : State) : (raise e s).mask = s.mask := rfl
@[simp] theorem raise_counters (e : Event) (s : State) : (raise e s).counters = s.counters := rfl
@[simp] theorem raise_fault (e : Event) (s : State) : (raise e s).fault = s.fault := rfl
@[simp] theorem raise_link (e : Event) (s : State) (x : Link) : (raise e s).link x = s.link x := rfl
@[simp] theorem raise_sector (e : Event) (s : State) (x : Sector) : (raise e s).sector x = s.sector x := rfl
@[simp] theorem raise_meter (e : Event) (s : State) (x : Sector) : (raise e s).meter x = s.meter x := rfl
@[simp] theorem raise_record (e : Event) (s : State) (x : RecordIndex) : (raise e s).record x = s.record x := rfl

@[simp] theorem bumpCounter_pending (n : Fin 48) (s : State) : (bumpCounter n s).pending = s.pending := rfl
@[simp] theorem bumpCounter_work (n : Fin 48) (s : State) : (bumpCounter n s).work = s.work := rfl
@[simp] theorem bumpCounter_resetLow (n : Fin 48) (s : State) : (bumpCounter n s).resetLow = s.resetLow := rfl
@[simp] theorem bumpCounter_timeBase (n : Fin 48) (s : State) : (bumpCounter n s).timeBase = s.timeBase := rfl
@[simp] theorem bumpCounter_run (n : Fin 48) (s : State) : (bumpCounter n s).run = s.run := rfl
@[simp] theorem bumpCounter_sectors (n : Fin 48) (s : State) : (bumpCounter n s).sectors = s.sectors := rfl
@[simp] theorem bumpCounter_meters (n : Fin 48) (s : State) : (bumpCounter n s).meters = s.meters := rfl
@[simp] theorem bumpCounter_sessions (n : Fin 48) (s : State) : (bumpCounter n s).sessions = s.sessions := rfl
@[simp] theorem bumpCounter_waitList (n : Fin 48) (s : State) : (bumpCounter n s).waitList = s.waitList := rfl
@[simp] theorem bumpCounter_claims (n : Fin 48) (s : State) : (bumpCounter n s).claims = s.claims := rfl
@[simp] theorem bumpCounter_links (n : Fin 48) (s : State) : (bumpCounter n s).links = s.links := rfl
@[simp] theorem bumpCounter_arbiter (n : Fin 48) (s : State) : (bumpCounter n s).arbiter = s.arbiter := rfl
@[simp] theorem bumpCounter_policy (n : Fin 48) (s : State) : (bumpCounter n s).policy = s.policy := rfl
@[simp] theorem bumpCounter_port (n : Fin 48) (s : State) : (bumpCounter n s).port = s.port := rfl
@[simp] theorem bumpCounter_marks (n : Fin 48) (s : State) : (bumpCounter n s).marks = s.marks := rfl
@[simp] theorem bumpCounter_mask (n : Fin 48) (s : State) : (bumpCounter n s).mask = s.mask := rfl
@[simp] theorem bumpCounter_fault (n : Fin 48) (s : State) : (bumpCounter n s).fault = s.fault := rfl
@[simp] theorem bumpCounter_link (n : Fin 48) (s : State) (x : Link) : (bumpCounter n s).link x = s.link x := rfl
@[simp] theorem bumpCounter_sector (n : Fin 48) (s : State) (x : Sector) : (bumpCounter n s).sector x = s.sector x := rfl
@[simp] theorem bumpCounter_meter (n : Fin 48) (s : State) (x : Sector) : (bumpCounter n s).meter x = s.meter x := rfl
@[simp] theorem bumpCounter_record (n : Fin 48) (s : State) (x : RecordIndex) : (bumpCounter n s).record x = s.record x := rfl

@[simp] theorem countClass_pending (k : ClassCounter) (c : Cls) (s : State) : (countClass k c s).pending = s.pending := rfl
@[simp] theorem countClass_work (k : ClassCounter) (c : Cls) (s : State) : (countClass k c s).work = s.work := rfl
@[simp] theorem countClass_resetLow (k : ClassCounter) (c : Cls) (s : State) : (countClass k c s).resetLow = s.resetLow := rfl
@[simp] theorem countClass_timeBase (k : ClassCounter) (c : Cls) (s : State) : (countClass k c s).timeBase = s.timeBase := rfl
@[simp] theorem countClass_run (k : ClassCounter) (c : Cls) (s : State) : (countClass k c s).run = s.run := rfl
@[simp] theorem countClass_sectors (k : ClassCounter) (c : Cls) (s : State) : (countClass k c s).sectors = s.sectors := rfl
@[simp] theorem countClass_meters (k : ClassCounter) (c : Cls) (s : State) : (countClass k c s).meters = s.meters := rfl
@[simp] theorem countClass_sessions (k : ClassCounter) (c : Cls) (s : State) : (countClass k c s).sessions = s.sessions := rfl
@[simp] theorem countClass_waitList (k : ClassCounter) (c : Cls) (s : State) : (countClass k c s).waitList = s.waitList := rfl
@[simp] theorem countClass_claims (k : ClassCounter) (c : Cls) (s : State) : (countClass k c s).claims = s.claims := rfl
@[simp] theorem countClass_links (k : ClassCounter) (c : Cls) (s : State) : (countClass k c s).links = s.links := rfl
@[simp] theorem countClass_arbiter (k : ClassCounter) (c : Cls) (s : State) : (countClass k c s).arbiter = s.arbiter := rfl
@[simp] theorem countClass_policy (k : ClassCounter) (c : Cls) (s : State) : (countClass k c s).policy = s.policy := rfl
@[simp] theorem countClass_port (k : ClassCounter) (c : Cls) (s : State) : (countClass k c s).port = s.port := rfl
@[simp] theorem countClass_marks (k : ClassCounter) (c : Cls) (s : State) : (countClass k c s).marks = s.marks := rfl
@[simp] theorem countClass_mask (k : ClassCounter) (c : Cls) (s : State) : (countClass k c s).mask = s.mask := rfl
@[simp] theorem countClass_fault (k : ClassCounter) (c : Cls) (s : State) : (countClass k c s).fault = s.fault := rfl
@[simp] theorem countClass_link (k : ClassCounter) (c : Cls) (s : State) (x : Link) : (countClass k c s).link x = s.link x := rfl
@[simp] theorem countClass_sector (k : ClassCounter) (c : Cls) (s : State) (x : Sector) : (countClass k c s).sector x = s.sector x := rfl
@[simp] theorem countClass_meter (k : ClassCounter) (c : Cls) (s : State) (x : Sector) : (countClass k c s).meter x = s.meter x := rfl
@[simp] theorem countClass_record (k : ClassCounter) (c : Cls) (s : State) (x : RecordIndex) : (countClass k c s).record x = s.record x := rfl

@[simp] theorem countTenant_pending (k : TenantCounter) (t : Tenant) (s : State) : (countTenant k t s).pending = s.pending := rfl
@[simp] theorem countTenant_work (k : TenantCounter) (t : Tenant) (s : State) : (countTenant k t s).work = s.work := rfl
@[simp] theorem countTenant_resetLow (k : TenantCounter) (t : Tenant) (s : State) : (countTenant k t s).resetLow = s.resetLow := rfl
@[simp] theorem countTenant_timeBase (k : TenantCounter) (t : Tenant) (s : State) : (countTenant k t s).timeBase = s.timeBase := rfl
@[simp] theorem countTenant_run (k : TenantCounter) (t : Tenant) (s : State) : (countTenant k t s).run = s.run := rfl
@[simp] theorem countTenant_sectors (k : TenantCounter) (t : Tenant) (s : State) : (countTenant k t s).sectors = s.sectors := rfl
@[simp] theorem countTenant_meters (k : TenantCounter) (t : Tenant) (s : State) : (countTenant k t s).meters = s.meters := rfl
@[simp] theorem countTenant_sessions (k : TenantCounter) (t : Tenant) (s : State) : (countTenant k t s).sessions = s.sessions := rfl
@[simp] theorem countTenant_waitList (k : TenantCounter) (t : Tenant) (s : State) : (countTenant k t s).waitList = s.waitList := rfl
@[simp] theorem countTenant_claims (k : TenantCounter) (t : Tenant) (s : State) : (countTenant k t s).claims = s.claims := rfl
@[simp] theorem countTenant_links (k : TenantCounter) (t : Tenant) (s : State) : (countTenant k t s).links = s.links := rfl
@[simp] theorem countTenant_arbiter (k : TenantCounter) (t : Tenant) (s : State) : (countTenant k t s).arbiter = s.arbiter := rfl
@[simp] theorem countTenant_policy (k : TenantCounter) (t : Tenant) (s : State) : (countTenant k t s).policy = s.policy := rfl
@[simp] theorem countTenant_port (k : TenantCounter) (t : Tenant) (s : State) : (countTenant k t s).port = s.port := rfl
@[simp] theorem countTenant_marks (k : TenantCounter) (t : Tenant) (s : State) : (countTenant k t s).marks = s.marks := rfl
@[simp] theorem countTenant_mask (k : TenantCounter) (t : Tenant) (s : State) : (countTenant k t s).mask = s.mask := rfl
@[simp] theorem countTenant_fault (k : TenantCounter) (t : Tenant) (s : State) : (countTenant k t s).fault = s.fault := rfl
@[simp] theorem countTenant_link (k : TenantCounter) (t : Tenant) (s : State) (x : Link) : (countTenant k t s).link x = s.link x := rfl
@[simp] theorem countTenant_sector (k : TenantCounter) (t : Tenant) (s : State) (x : Sector) : (countTenant k t s).sector x = s.sector x := rfl
@[simp] theorem countTenant_meter (k : TenantCounter) (t : Tenant) (s : State) (x : Sector) : (countTenant k t s).meter x = s.meter x := rfl
@[simp] theorem countTenant_record (k : TenantCounter) (t : Tenant) (s : State) (x : RecordIndex) : (countTenant k t s).record x = s.record x := rfl

@[simp] theorem offerFault_pending (t : Tenant) (b : Byte) (r : FaultReason) (s : State) : (offerFault t b r s).pending = s.pending := rfl
@[simp] theorem offerFault_work (t : Tenant) (b : Byte) (r : FaultReason) (s : State) : (offerFault t b r s).work = s.work := rfl
@[simp] theorem offerFault_resetLow (t : Tenant) (b : Byte) (r : FaultReason) (s : State) : (offerFault t b r s).resetLow = s.resetLow := rfl
@[simp] theorem offerFault_timeBase (t : Tenant) (b : Byte) (r : FaultReason) (s : State) : (offerFault t b r s).timeBase = s.timeBase := rfl
@[simp] theorem offerFault_run (t : Tenant) (b : Byte) (r : FaultReason) (s : State) : (offerFault t b r s).run = s.run := rfl
@[simp] theorem offerFault_sectors (t : Tenant) (b : Byte) (r : FaultReason) (s : State) : (offerFault t b r s).sectors = s.sectors := rfl
@[simp] theorem offerFault_meters (t : Tenant) (b : Byte) (r : FaultReason) (s : State) : (offerFault t b r s).meters = s.meters := rfl
@[simp] theorem offerFault_sessions (t : Tenant) (b : Byte) (r : FaultReason) (s : State) : (offerFault t b r s).sessions = s.sessions := rfl
@[simp] theorem offerFault_waitList (t : Tenant) (b : Byte) (r : FaultReason) (s : State) : (offerFault t b r s).waitList = s.waitList := rfl
@[simp] theorem offerFault_claims (t : Tenant) (b : Byte) (r : FaultReason) (s : State) : (offerFault t b r s).claims = s.claims := rfl
@[simp] theorem offerFault_links (t : Tenant) (b : Byte) (r : FaultReason) (s : State) : (offerFault t b r s).links = s.links := rfl
@[simp] theorem offerFault_arbiter (t : Tenant) (b : Byte) (r : FaultReason) (s : State) : (offerFault t b r s).arbiter = s.arbiter := rfl
@[simp] theorem offerFault_policy (t : Tenant) (b : Byte) (r : FaultReason) (s : State) : (offerFault t b r s).policy = s.policy := rfl
@[simp] theorem offerFault_port (t : Tenant) (b : Byte) (r : FaultReason) (s : State) : (offerFault t b r s).port = s.port := rfl
@[simp] theorem offerFault_marks (t : Tenant) (b : Byte) (r : FaultReason) (s : State) : (offerFault t b r s).marks = s.marks := rfl
@[simp] theorem offerFault_mask (t : Tenant) (b : Byte) (r : FaultReason) (s : State) : (offerFault t b r s).mask = s.mask := rfl
@[simp] theorem offerFault_counters (t : Tenant) (b : Byte) (r : FaultReason) (s : State) : (offerFault t b r s).counters = s.counters := rfl
@[simp] theorem offerFault_link (t : Tenant) (b : Byte) (r : FaultReason) (s : State) (x : Link) : (offerFault t b r s).link x = s.link x := rfl
@[simp] theorem offerFault_sector (t : Tenant) (b : Byte) (r : FaultReason) (s : State) (x : Sector) : (offerFault t b r s).sector x = s.sector x := rfl
@[simp] theorem offerFault_meter (t : Tenant) (b : Byte) (r : FaultReason) (s : State) (x : Sector) : (offerFault t b r s).meter x = s.meter x := rfl
@[simp] theorem offerFault_record (t : Tenant) (b : Byte) (r : FaultReason) (s : State) (x : RecordIndex) : (offerFault t b r s).record x = s.record x := rfl

@[simp] theorem setTag_pending (k : RequestName) (b : Bool) (s : State) : (setTag k b s).pending = s.pending := rfl
@[simp] theorem setTag_work (k : RequestName) (b : Bool) (s : State) : (setTag k b s).work = s.work := rfl
@[simp] theorem setTag_resetLow (k : RequestName) (b : Bool) (s : State) : (setTag k b s).resetLow = s.resetLow := rfl
@[simp] theorem setTag_timeBase (k : RequestName) (b : Bool) (s : State) : (setTag k b s).timeBase = s.timeBase := rfl
@[simp] theorem setTag_run (k : RequestName) (b : Bool) (s : State) : (setTag k b s).run = s.run := rfl
@[simp] theorem setTag_sectors (k : RequestName) (b : Bool) (s : State) : (setTag k b s).sectors = s.sectors := rfl
@[simp] theorem setTag_meters (k : RequestName) (b : Bool) (s : State) : (setTag k b s).meters = s.meters := rfl
@[simp] theorem setTag_sessions (k : RequestName) (b : Bool) (s : State) : (setTag k b s).sessions = s.sessions := rfl
@[simp] theorem setTag_waitList (k : RequestName) (b : Bool) (s : State) : (setTag k b s).waitList = s.waitList := rfl
@[simp] theorem setTag_claims (k : RequestName) (b : Bool) (s : State) : (setTag k b s).claims = s.claims := rfl
@[simp] theorem setTag_arbiter (k : RequestName) (b : Bool) (s : State) : (setTag k b s).arbiter = s.arbiter := rfl
@[simp] theorem setTag_policy (k : RequestName) (b : Bool) (s : State) : (setTag k b s).policy = s.policy := rfl
@[simp] theorem setTag_port (k : RequestName) (b : Bool) (s : State) : (setTag k b s).port = s.port := rfl
@[simp] theorem setTag_marks (k : RequestName) (b : Bool) (s : State) : (setTag k b s).marks = s.marks := rfl
@[simp] theorem setTag_mask (k : RequestName) (b : Bool) (s : State) : (setTag k b s).mask = s.mask := rfl
@[simp] theorem setTag_counters (k : RequestName) (b : Bool) (s : State) : (setTag k b s).counters = s.counters := rfl
@[simp] theorem setTag_fault (k : RequestName) (b : Bool) (s : State) : (setTag k b s).fault = s.fault := rfl
@[simp] theorem setTag_sector (k : RequestName) (b : Bool) (s : State) (x : Sector) : (setTag k b s).sector x = s.sector x := rfl
@[simp] theorem setTag_meter (k : RequestName) (b : Bool) (s : State) (x : Sector) : (setTag k b s).meter x = s.meter x := rfl
@[simp] theorem setTag_record (k : RequestName) (b : Bool) (s : State) (x : RecordIndex) : (setTag k b s).record x = s.record x := rfl

@[simp] theorem emptyStore_pending (l : Link) (s : State) : (emptyStore l s).pending = s.pending := rfl
@[simp] theorem emptyStore_work (l : Link) (s : State) : (emptyStore l s).work = s.work := rfl
@[simp] theorem emptyStore_resetLow (l : Link) (s : State) : (emptyStore l s).resetLow = s.resetLow := rfl
@[simp] theorem emptyStore_timeBase (l : Link) (s : State) : (emptyStore l s).timeBase = s.timeBase := rfl
@[simp] theorem emptyStore_run (l : Link) (s : State) : (emptyStore l s).run = s.run := rfl
@[simp] theorem emptyStore_sectors (l : Link) (s : State) : (emptyStore l s).sectors = s.sectors := rfl
@[simp] theorem emptyStore_meters (l : Link) (s : State) : (emptyStore l s).meters = s.meters := rfl
@[simp] theorem emptyStore_sessions (l : Link) (s : State) : (emptyStore l s).sessions = s.sessions := rfl
@[simp] theorem emptyStore_waitList (l : Link) (s : State) : (emptyStore l s).waitList = s.waitList := rfl
@[simp] theorem emptyStore_claims (l : Link) (s : State) : (emptyStore l s).claims = s.claims := rfl
@[simp] theorem emptyStore_arbiter (l : Link) (s : State) : (emptyStore l s).arbiter = s.arbiter := rfl
@[simp] theorem emptyStore_policy (l : Link) (s : State) : (emptyStore l s).policy = s.policy := rfl
@[simp] theorem emptyStore_port (l : Link) (s : State) : (emptyStore l s).port = s.port := rfl
@[simp] theorem emptyStore_marks (l : Link) (s : State) : (emptyStore l s).marks = s.marks := rfl
@[simp] theorem emptyStore_mask (l : Link) (s : State) : (emptyStore l s).mask = s.mask := rfl
@[simp] theorem emptyStore_counters (l : Link) (s : State) : (emptyStore l s).counters = s.counters := rfl
@[simp] theorem emptyStore_fault (l : Link) (s : State) : (emptyStore l s).fault = s.fault := rfl
@[simp] theorem emptyStore_sector (l : Link) (s : State) (x : Sector) : (emptyStore l s).sector x = s.sector x := rfl
@[simp] theorem emptyStore_meter (l : Link) (s : State) (x : Sector) : (emptyStore l s).meter x = s.meter x := rfl
@[simp] theorem emptyStore_record (l : Link) (s : State) (x : RecordIndex) : (emptyStore l s).record x = s.record x := rfl

@[simp] theorem assignUnits_pending (sec : Sector) (us : List UnitNo) (p : Position) (s : State) : (assignUnits sec us p s).pending = s.pending := rfl
@[simp] theorem assignUnits_work (sec : Sector) (us : List UnitNo) (p : Position) (s : State) : (assignUnits sec us p s).work = s.work := rfl
@[simp] theorem assignUnits_resetLow (sec : Sector) (us : List UnitNo) (p : Position) (s : State) : (assignUnits sec us p s).resetLow = s.resetLow := rfl
@[simp] theorem assignUnits_timeBase (sec : Sector) (us : List UnitNo) (p : Position) (s : State) : (assignUnits sec us p s).timeBase = s.timeBase := rfl
@[simp] theorem assignUnits_run (sec : Sector) (us : List UnitNo) (p : Position) (s : State) : (assignUnits sec us p s).run = s.run := rfl
@[simp] theorem assignUnits_meters (sec : Sector) (us : List UnitNo) (p : Position) (s : State) : (assignUnits sec us p s).meters = s.meters := rfl
@[simp] theorem assignUnits_sessions (sec : Sector) (us : List UnitNo) (p : Position) (s : State) : (assignUnits sec us p s).sessions = s.sessions := rfl
@[simp] theorem assignUnits_waitList (sec : Sector) (us : List UnitNo) (p : Position) (s : State) : (assignUnits sec us p s).waitList = s.waitList := rfl
@[simp] theorem assignUnits_claims (sec : Sector) (us : List UnitNo) (p : Position) (s : State) : (assignUnits sec us p s).claims = s.claims := rfl
@[simp] theorem assignUnits_links (sec : Sector) (us : List UnitNo) (p : Position) (s : State) : (assignUnits sec us p s).links = s.links := rfl
@[simp] theorem assignUnits_arbiter (sec : Sector) (us : List UnitNo) (p : Position) (s : State) : (assignUnits sec us p s).arbiter = s.arbiter := rfl
@[simp] theorem assignUnits_policy (sec : Sector) (us : List UnitNo) (p : Position) (s : State) : (assignUnits sec us p s).policy = s.policy := rfl
@[simp] theorem assignUnits_port (sec : Sector) (us : List UnitNo) (p : Position) (s : State) : (assignUnits sec us p s).port = s.port := rfl
@[simp] theorem assignUnits_marks (sec : Sector) (us : List UnitNo) (p : Position) (s : State) : (assignUnits sec us p s).marks = s.marks := rfl
@[simp] theorem assignUnits_mask (sec : Sector) (us : List UnitNo) (p : Position) (s : State) : (assignUnits sec us p s).mask = s.mask := rfl
@[simp] theorem assignUnits_counters (sec : Sector) (us : List UnitNo) (p : Position) (s : State) : (assignUnits sec us p s).counters = s.counters := rfl
@[simp] theorem assignUnits_fault (sec : Sector) (us : List UnitNo) (p : Position) (s : State) : (assignUnits sec us p s).fault = s.fault := rfl
@[simp] theorem assignUnits_link (sec : Sector) (us : List UnitNo) (p : Position) (s : State) (x : Link) : (assignUnits sec us p s).link x = s.link x := rfl
@[simp] theorem assignUnits_meter (sec : Sector) (us : List UnitNo) (p : Position) (s : State) (x : Sector) : (assignUnits sec us p s).meter x = s.meter x := rfl
@[simp] theorem assignUnits_record (sec : Sector) (us : List UnitNo) (p : Position) (s : State) (x : RecordIndex) : (assignUnits sec us p s).record x = s.record x := rfl

@[simp] theorem dueService_pending (sec : Sector) (s : State) : (dueService sec s).pending = s.pending := rfl
@[simp] theorem dueService_resetLow (sec : Sector) (s : State) : (dueService sec s).resetLow = s.resetLow := rfl
@[simp] theorem dueService_timeBase (sec : Sector) (s : State) : (dueService sec s).timeBase = s.timeBase := rfl
@[simp] theorem dueService_run (sec : Sector) (s : State) : (dueService sec s).run = s.run := rfl
@[simp] theorem dueService_sectors (sec : Sector) (s : State) : (dueService sec s).sectors = s.sectors := rfl
@[simp] theorem dueService_meters (sec : Sector) (s : State) : (dueService sec s).meters = s.meters := rfl
@[simp] theorem dueService_sessions (sec : Sector) (s : State) : (dueService sec s).sessions = s.sessions := rfl
@[simp] theorem dueService_waitList (sec : Sector) (s : State) : (dueService sec s).waitList = s.waitList := rfl
@[simp] theorem dueService_claims (sec : Sector) (s : State) : (dueService sec s).claims = s.claims := rfl
@[simp] theorem dueService_links (sec : Sector) (s : State) : (dueService sec s).links = s.links := rfl
@[simp] theorem dueService_arbiter (sec : Sector) (s : State) : (dueService sec s).arbiter = s.arbiter := rfl
@[simp] theorem dueService_policy (sec : Sector) (s : State) : (dueService sec s).policy = s.policy := rfl
@[simp] theorem dueService_port (sec : Sector) (s : State) : (dueService sec s).port = s.port := rfl
@[simp] theorem dueService_marks (sec : Sector) (s : State) : (dueService sec s).marks = s.marks := rfl
@[simp] theorem dueService_mask (sec : Sector) (s : State) : (dueService sec s).mask = s.mask := rfl
@[simp] theorem dueService_counters (sec : Sector) (s : State) : (dueService sec s).counters = s.counters := rfl
@[simp] theorem dueService_fault (sec : Sector) (s : State) : (dueService sec s).fault = s.fault := rfl
@[simp] theorem dueService_link (sec : Sector) (s : State) (x : Link) : (dueService sec s).link x = s.link x := rfl
@[simp] theorem dueService_sector (sec : Sector) (s : State) (x : Sector) : (dueService sec s).sector x = s.sector x := rfl
@[simp] theorem dueService_meter (sec : Sector) (s : State) (x : Sector) : (dueService sec s).meter x = s.meter x := rfl
@[simp] theorem dueService_record (sec : Sector) (s : State) (x : RecordIndex) : (dueService sec s).record x = s.record x := rfl

@[simp] theorem State.modLink_link_self (s : State) (l : Link) (f : LinkRec → LinkRec) :
    (s.modLink l f).link l = f (s.link l) := get_vmod_self _ _ _

theorem State.modLink_link_ne (s : State) {l k : Link} (h : k ≠ l) (f : LinkRec → LinkRec) :
    (s.modLink l f).link k = s.link k := get_vmod_ne _ h _

theorem State.modLink_link (s : State) (l k : Link) (f : LinkRec → LinkRec) :
    (s.modLink l f).link k = if k = l then f (s.link k) else s.link k := get_vmod _ _ _ _

@[simp] theorem State.modSector_sector_self (s : State) (i : Sector) (f : PoolSector → PoolSector) :
    (s.modSector i f).sector i = f (s.sector i) := get_vmod_self _ _ _

theorem State.modSector_sector (s : State) (i j : Sector) (f : PoolSector → PoolSector) :
    (s.modSector i f).sector j = if j = i then f (s.sector j) else s.sector j := get_vmod _ _ _ _

@[simp] theorem State.modMeter_meter_self (s : State) (i : Sector) (f : Meter → Meter) :
    (s.modMeter i f).meter i = f (s.meter i) := get_vmod_self _ _ _

theorem State.modMeter_meter (s : State) (i j : Sector) (f : Meter → Meter) :
    (s.modMeter i f).meter j = if j = i then f (s.meter j) else s.meter j := get_vmod _ _ _ _

@[simp] theorem State.modRecord_record_self (s : State) (i : RecordIndex) (f : Record → Record) :
    (s.modRecord i f).record i = f (s.record i) := get_vmod_self _ _ _

theorem State.modRecord_record (s : State) (i j : RecordIndex) (f : Record → Record) :
    (s.modRecord i f).record j = if j = i then f (s.record j) else s.record j := get_vmod _ _ _ _

/-- Updates of two links commute into one table, link by link. -/
theorem State.ext_links {s t : State} (h : ∀ l, s.link l = t.link l) : s.links = t.links := by
  apply Vector.ext
  intro i hi
  exact h ⟨i, hi⟩

/-- Two tables of sectors are equal when they agree at each sector. -/
theorem State.ext_sectors {s t : State} (h : ∀ i, s.sector i = t.sector i) : s.sectors = t.sectors := by
  apply Vector.ext
  intro i hi
  exact h ⟨i, hi⟩

/-- The links after the transmissions of an event have begun (R136). -/
@[simp] theorem beginTransmissions_link (s : State) (l : Link) :
    (beginTransmissions s).link l = if (s.link l).mayBegin then (s.link l).begin else s.link l :=
  Vector.get_ofFn _ _

@[simp] theorem beginTransmissions_pending (s : State) : (beginTransmissions s).pending = s.pending := rfl
@[simp] theorem beginTransmissions_work (s : State) : (beginTransmissions s).work = s.work := rfl
@[simp] theorem beginTransmissions_resetLow (s : State) : (beginTransmissions s).resetLow = s.resetLow := rfl
@[simp] theorem beginTransmissions_timeBase (s : State) : (beginTransmissions s).timeBase = s.timeBase := rfl
@[simp] theorem beginTransmissions_run (s : State) : (beginTransmissions s).run = s.run := rfl
@[simp] theorem beginTransmissions_sectors (s : State) : (beginTransmissions s).sectors = s.sectors := rfl
@[simp] theorem beginTransmissions_meters (s : State) : (beginTransmissions s).meters = s.meters := rfl
@[simp] theorem beginTransmissions_sessions (s : State) : (beginTransmissions s).sessions = s.sessions := rfl
@[simp] theorem beginTransmissions_waitList (s : State) : (beginTransmissions s).waitList = s.waitList := rfl
@[simp] theorem beginTransmissions_claims (s : State) : (beginTransmissions s).claims = s.claims := rfl
@[simp] theorem beginTransmissions_arbiter (s : State) : (beginTransmissions s).arbiter = s.arbiter := rfl
@[simp] theorem beginTransmissions_policy (s : State) : (beginTransmissions s).policy = s.policy := rfl
@[simp] theorem beginTransmissions_port (s : State) : (beginTransmissions s).port = s.port := rfl
@[simp] theorem beginTransmissions_marks (s : State) : (beginTransmissions s).marks = s.marks := rfl
@[simp] theorem beginTransmissions_mask (s : State) : (beginTransmissions s).mask = s.mask := rfl
@[simp] theorem beginTransmissions_counters (s : State) : (beginTransmissions s).counters = s.counters := rfl
@[simp] theorem beginTransmissions_fault (s : State) : (beginTransmissions s).fault = s.fault := rfl
@[simp] theorem beginTransmissions_sector (s : State) (x : Sector) : (beginTransmissions s).sector x = s.sector x := rfl
@[simp] theorem beginTransmissions_meter (s : State) (x : Sector) : (beginTransmissions s).meter x = s.meter x := rfl
@[simp] theorem beginTransmissions_record (s : State) (x : RecordIndex) : (beginTransmissions s).record x = s.record x := rfl

end Sys2Proof.Machine
end

