-- ==== Sys2Proof/Laws/Keeps.lean ====
section
/-! SUPPORT. What the shared operations of an event never change. `Keeps s t` says it once; every operation on frames,
positions, sessions, entries and claims, every service run, release sequence and stall has it, and it composes. -/

namespace Sys2Proof.Machine

/-- From `s` to `t` nothing changed but positions, holdings, sessions, entries, claims, links, marks, counters and the event's own
work list. -/
structure Keeps (s t : State) : Prop where
  pending : t.pending = s.pending
  resetLow : t.resetLow = s.resetLow
  timeBase : t.timeBase = s.timeBase
  run : t.run = s.run
  meters : t.meters = s.meters
  arbiter : t.arbiter = s.arbiter
  policy : t.policy = s.policy
  port : t.port = s.port
  mask : t.mask = s.mask
  fault : t.fault = s.fault
  effective : ∀ i, (t.sector i).effective = (s.sector i).effective
  pendingSettings : ∀ i, (t.sector i).pending = (s.sector i).pending

theorem Keeps.rfl {s : State} : Keeps s s := by constructor <;> intros <;> trivial

theorem Keeps.trans {s t u : State} (h : Keeps s t) (k : Keeps t u) : Keeps s u := by
  constructor
  · rw [k.pending, h.pending]
  · rw [k.resetLow, h.resetLow]
  · rw [k.timeBase, h.timeBase]
  · rw [k.run, h.run]
  · rw [k.meters, h.meters]
  · rw [k.arbiter, h.arbiter]
  · rw [k.policy, h.policy]
  · rw [k.port, h.port]
  · rw [k.mask, h.mask]
  · rw [k.fault, h.fault]
  · intro i; rw [k.effective, h.effective]
  · intro i; rw [k.pendingSettings, h.pendingSettings]

/-- A fold of operations that each keep these fields keeps them. -/
theorem Keeps.foldl {α : Type} (f : State → α → State) (h : ∀ s a, Keeps s (f s a)) (as : List α) (s : State) :
    Keeps s (as.foldl f s) := by
  induction as generalizing s with
  | nil => exact .rfl
  | cons a as ih => exact (h s a).trans (ih _)

theorem Keeps.meter {s t : State} (h : Keeps s t) (i : Sector) : t.meter i = s.meter i := by
  unfold State.meter; rw [h.meters]

theorem Keeps.classPolicy {s t : State} (h : Keeps s t) (c : Cls) : t.classPolicy c = s.classPolicy c := by
  unfold State.classPolicy; rw [h.policy]

/-! ### Single updates -/

theorem keeps_modLink (l : Link) (f : LinkRec → LinkRec) (s : State) : Keeps s (s.modLink l f) := by
  constructor <;> intros <;> rfl

theorem keeps_modRecord (i : RecordIndex) (f : Record → Record) (s : State) : Keeps s (s.modRecord i f) := by
  constructor <;> intros <;> rfl

theorem keeps_modEntry (k : RequestName) (f : WaitEntry → WaitEntry) (s : State) : Keeps s (s.modEntry k f) := by
  constructor <;> intros <;> rfl

theorem keeps_removeEntry (k : RequestName) (s : State) : Keeps s (s.removeEntry k) := by
  constructor <;> intros <;> rfl

theorem keeps_modClaim (k : RequestName) (f : Claim → Claim) (s : State) : Keeps s (s.modClaim k f) := by
  constructor <;> intros <;> rfl

theorem keeps_raise (e : Event) (s : State) : Keeps s (raise e s) := by constructor <;> intros <;> rfl

theorem keeps_countClass (k : ClassCounter) (c : Cls) (s : State) : Keeps s (countClass k c s) := by
  constructor <;> intros <;> rfl

theorem keeps_countTenant (k : TenantCounter) (t : Tenant) (s : State) : Keeps s (countTenant k t s) := by
  constructor <;> intros <;> rfl

theorem keeps_setTag (k : RequestName) (b : Bool) (s : State) : Keeps s (setTag k b s) := keeps_modLink _ _ _

theorem keeps_emptyStore (l : Link) (s : State) : Keeps s (emptyStore l s) := keeps_modLink _ _ _

theorem keeps_withWork (w : EventWork) (s : State) : Keeps s { s with work := w } := by
  constructor <;> intros <;> rfl

theorem keeps_withWaitList (w : List WaitEntry) (s : State) : Keeps s { s with waitList := w } := by
  constructor <;> intros <;> rfl

/-- A change of a sector that leaves both copies of its settings. -/
theorem keeps_modSector (i : Sector) (f : PoolSector → PoolSector) (s : State)
    (he : ∀ p, (f p).effective = p.effective) (hp : ∀ p, (f p).pending = p.pending) :
    Keeps s (s.modSector i f) := by
  constructor <;> intros <;> try rfl
  · rw [State.modSector_sector]; split <;> simp [he]
  · rw [State.modSector_sector]; split <;> simp [hp]

theorem keeps_assignUnits (sec : Sector) (us : List UnitNo) (x : Position) (s : State) :
    Keeps s (assignUnits sec us x s) :=
  keeps_modSector sec (fun p => p.assign us x) s (fun _ => by simp only [PoolSector.assign])
    (fun _ => by simp only [PoolSector.assign])

theorem keeps_dueService (sec : Sector) (s : State) : Keeps s (dueService sec s) := keeps_withWork _ _

theorem keeps_raiseHolding (c : Cls) (t : Tenant) (sec : Sector) (n : Nat) (s : State) :
    Keeps s (raiseHolding c t sec n s) := by
  unfold raiseHolding; split
  · exact keeps_modSector _ _ _ (fun _ => rfl) (fun _ => rfl)
  · exact .rfl

theorem keeps_lowerHolding (c : Cls) (t : Tenant) (sec : Sector) (n : Nat) (s : State) :
    Keeps s (lowerHolding c t sec n s) := by
  unfold lowerHolding; split
  · exact keeps_modSector _ _ _ (fun _ => rfl) (fun _ => rfl)
  · exact .rfl

/-! ### Frames -/

theorem keeps_changeLinkState (l : Link) (x : LinkState) (s : State) : Keeps s (changeLinkState l x s) := by
  unfold changeLinkState; split
  · exact .rfl
  · exact (keeps_modLink _ _ _).trans (keeps_raise _ _)

theorem keeps_stall (l : Link) (s : State) : Keeps s (stall l s) :=
  ((keeps_changeLinkState _ _ _).trans (keeps_emptyStore _ _)).trans
    (((keeps_countTenant _ _ _).trans (keeps_raise _ _)).trans (keeps_withWork _ _))

theorem keeps_queueFrame (l : Link) (f : OutFrame) (s : State) : Keeps s (queueFrame l f s) := by
  unfold queueFrame; split
  · split
    · exact keeps_modLink _ _ _
    · exact keeps_stall _ _
  · exact .rfl

theorem keeps_queueFraction (l : Link) (sec : Sector) (g : Figures) (s : State) :
    Keeps s (queueFraction l sec g s) := by
  unfold queueFraction; dsimp only; split
  · exact keeps_modLink _ _ _
  · exact keeps_queueFrame _ _ _

theorem keeps_creditIfIdle (l : Link) (s : State) : Keeps s (creditIfIdle l s) := by
  unfold creditIfIdle; dsimp only; split
  · exact keeps_modLink _ _ _
  · exact .rfl

theorem keeps_owe (l : Link) (n : Nat) (s : State) : Keeps s (owe l n s) :=
  (keeps_modLink _ _ _).trans (keeps_creditIfIdle _ _)

theorem keeps_settleDiscard (l : Link) (n : Nat) (s : State) : Keeps s (settleDiscard l n s) := by
  unfold settleDiscard; split
  · exact (keeps_modLink _ _ _).trans (keeps_owe _ _ _)
  · exact .rfl

theorem keeps_beginTransmissions (s : State) : Keeps s (beginTransmissions s) := by
  constructor <;> intros <;> rfl

theorem keeps_answerEntry (e : WaitEntry) (o : ReplyOutcome) (s : State) : Keeps s (answerEntry e o s) :=
  (keeps_queueFrame _ _ _).trans (keeps_setTag _ _ _)

theorem keeps_refuseEntry (o : ReplyOutcome) (e : WaitEntry) (s : State) : Keeps s (refuseEntry o e s) :=
  (keeps_answerEntry _ _ _).trans (keeps_countClass _ _ _)

/-! ### Units, sessions and claims -/

theorem keeps_releaseUnits (sec : Sector) (us : List UnitNo) (s : State) : Keeps s (releaseUnits sec us s) := by
  have h : Keeps s (s.modSector sec (fun p => p.release us)) :=
    keeps_modSector _ _ _ (fun _ => by simp only [PoolSector.release]) (fun _ => by simp only [PoolSector.release])
  unfold releaseUnits; dsimp only; split
  · exact h.trans (keeps_dueService _ _)
  · exact h

theorem keeps_grantUnits (k : RequestName) (b : Byte) (c : Cls) (sec : Sector) (us : List UnitNo) (s : State) :
    Keeps s (grantUnits k b c sec us s) := by
  unfold grantUnits; split
  · exact .rfl
  · exact ((keeps_modRecord _ _ _).trans (keeps_assignUnits _ _ _ _)).trans
      (((keeps_raiseHolding _ _ _ _ _).trans (keeps_countClass _ _ _)).trans (keeps_queueFrame _ _ _))

theorem keeps_grantEntry (e : WaitEntry) (us : List UnitNo) (s : State) : Keeps s (grantEntry e us s) :=
  ((keeps_grantUnits _ _ _ _ _ _).trans (keeps_setTag _ _ _)).trans (keeps_removeEntry _ _)

theorem keeps_earmark (k : RequestName) (sec : Sector) (us : List UnitNo) (s : State) :
    Keeps s (earmark k sec us s) := (keeps_assignUnits _ _ _ _).trans (keeps_modClaim _ _ _)

theorem keeps_dropReference (k : RequestName) (h : Handle) (s : State) : Keeps s (dropReference k h s) :=
  keeps_modRecord _ _ _

theorem keeps_dropClaim (c : Claim) (s : State) : Keeps s (dropClaim c s) := by
  refine (Keeps.foldl _ (fun s h => keeps_dropReference c.claimant h s) c.victims s).trans ?_
  constructor <;> intros <;> rfl

theorem keeps_completeClaim (c : Claim) (s : State) : Keeps s (completeClaim c s) :=
  (keeps_grantUnits _ _ _ _ _ _).trans
    (((keeps_setTag _ _ _).trans (keeps_removeEntry _ _)).trans (keeps_dropClaim _ _))

theorem keeps_completeIfFull (k : RequestName) (s : State) : Keeps s (completeIfFull k s) := by
  unfold completeIfFull; split
  · exact .rfl
  · split
    · exact keeps_completeClaim _ _
    · exact .rfl

theorem keeps_endClaims (ks : List RequestName) (s : State) : Keeps s (endClaims ks s) :=
  (Keeps.foldl _ (fun s c => keeps_dropClaim c s) _ s).trans
    (Keeps.foldl _ (fun s (c : Claim) => keeps_releaseUnits c.sector c.earmarked s) _ _)

theorem keeps_transferUnits (k : RequestName) (x : Session) (s : State) : Keeps s (transferUnits k x s) := by
  unfold transferUnits; split
  · exact keeps_releaseUnits _ _ _
  · exact (keeps_earmark _ _ _ _).trans (keeps_releaseUnits _ _ _)

theorem keeps_freeSession (i : RecordIndex) (s : State) : Keeps s (freeSession i s) := by
  unfold freeSession; split
  · exact .rfl
  · dsimp only; split
    · exact (keeps_releaseUnits _ _ _).trans ((keeps_lowerHolding _ _ _ _ _).trans (keeps_modRecord _ _ _))
    · exact (keeps_transferUnits _ _ _).trans (((keeps_lowerHolding _ _ _ _ _).trans (keeps_modRecord _ _ _)).trans
        ((keeps_modClaim _ _ _).trans (keeps_completeIfFull _ _)))

theorem keeps_seize (k : RequestName) (v : RecordIndex × Session) (s : State) : Keeps s (seize k v s) :=
  (keeps_modRecord _ _ _).trans (keeps_countClass _ _ _)

theorem keeps_makeClaim (e : WaitEntry) (vs : List (RecordIndex × Session)) (s : State) :
    Keeps s (makeClaim e vs s) := by
  unfold makeClaim; dsimp only
  refine Keeps.trans ?_ (Keeps.foldl _ (fun s v => keeps_queueFrame _ _ s) _ _)
  refine Keeps.trans ?_ (Keeps.foldl _ (fun s v => keeps_seize _ v s) _ _)
  refine Keeps.trans ?_ (keeps_modEntry _ _ _)
  refine Keeps.trans ?_ (keeps_earmark _ _ _ _)
  constructor <;> intros <;> rfl

theorem keeps_claimAttempt (e : WaitEntry) (s : State) : Keeps s (claimAttempt e s) := by
  unfold claimAttempt; split
  · exact (keeps_modEntry _ _ _).trans (keeps_raise _ _)
  · dsimp only; split
    · exact (keeps_modEntry _ _ _).trans (keeps_makeClaim _ _ _)
    · exact keeps_modEntry _ _ _

/-! ### Service, offers and the release sequence -/

theorem keeps_serveClaim (k : RequestName) (s : State) : Keeps s (serveClaim k s) := by
  unfold serveClaim; split
  · exact .rfl
  · exact (keeps_earmark _ _ _ _).trans (keeps_completeIfFull _ _)

theorem keeps_claimService (sec : Sector) (s : State) : Keeps s (claimService sec s) :=
  Keeps.foldl _ (fun s k => keeps_serveClaim k s) _ s

theorem keeps_scan (es : List WaitEntry) (s : State) : Keeps s (scan es s) := by
  induction es generalizing s with
  | nil => exact .rfl
  | cons e es ih =>
    unfold scan; split
    · split
      · exact (keeps_grantEntry _ _ _).trans (ih _)
      · exact ih _
    · exact .rfl

theorem keeps_serviceRun (sec : Sector) (s : State) : Keeps s (serviceRun sec s) :=
  (keeps_claimService _ _).trans (keeps_scan _ _)

theorem keeps_offerTo (es : List WaitEntry) (s : State) : Keeps s (offerTo es s) := by
  induction es generalizing s with
  | nil => exact .rfl
  | cons e es ih =>
    unfold offerTo; dsimp only; split
    · exact (keeps_modEntry _ _ _).trans (ih _)
    · split
      · exact (keeps_modEntry _ _ _).trans (keeps_claimAttempt _ _)
      · exact ((keeps_modEntry _ _ _).trans (keeps_claimAttempt _ _)).trans (ih _)

theorem keeps_offerSlots (n : Nat) (s : State) : Keeps s (offerSlots n s) := by
  induction n generalizing s with
  | zero => exact .rfl
  | succ n ih => exact (keeps_offerTo _ _).trans (ih _)

theorem keeps_settle (s : State) : Keeps s (settle s) := by
  have h : Keeps s ((List.finRange 8).foldl (fun t sec => if sec ∈ s.work.serve then serviceRun sec t else t) s) := by
    refine Keeps.foldl _ (fun t sec => ?_) _ s
    split
    · exact keeps_serviceRun _ _
    · exact .rfl
  exact (h.trans (keeps_withWork _ _)).trans (keeps_offerSlots _ _)

theorem keeps_releaseSequence (l : Link) (b : Bool) (s : State) : Keeps s (releaseSequence l b s) := by
  unfold releaseSequence; dsimp only
  refine Keeps.trans ?_ (keeps_modLink _ _ _)
  refine Keeps.trans ?_ (keeps_settle _)
  refine Keeps.trans ?_ (keeps_modLink _ _ _)
  refine Keeps.trans ?_ (Keeps.foldl _ (fun s i => keeps_freeSession i s) _ _)
  refine Keeps.trans ?_ (Keeps.foldl _ (fun s i => keeps_freeSession i s) _ _)
  refine Keeps.trans ?_ (keeps_endClaims _ _)
  exact (keeps_modLink _ _ _).trans (keeps_withWaitList _ _)

theorem keeps_drainStalls (n : Nat) (s : State) : Keeps s (drainStalls n s) := by
  induction n generalizing s with
  | zero => exact .rfl
  | succ n ih =>
    unfold drainStalls; split
    · exact .rfl
    · exact ((keeps_withWork _ _).trans (keeps_releaseSequence _ _ _)).trans (ih _)

theorem keeps_finishEvent (s : State) : Keeps s (finishEvent s) :=
  ((keeps_drainStalls _ _).trans (keeps_withWork _ _)).trans (keeps_beginTransmissions _)

/-- What an event's own work keeps, the whole event keeps. -/
theorem keeps_runEvent {body : State → State} (h : ∀ s, Keeps s (body s)) (s : State) : Keeps s (runEvent body s) :=
  ((keeps_withWork _ _).trans (h _)).trans (keeps_finishEvent _)

end Sys2Proof.Machine
end

