-- ==== Sys2Proof/Laws/Ask.lean ====
section
/-! SUPPORT. How far the two sentences hold that other rules limit: R78's on the order test (log entry 28) and R32's on claims made
on arrival (log entry 29). -/

namespace Sys2Proof.Machine

/-! ### The order test -/

/-- A new ASK of any class but EMERGENCY fails its order test behind every waiting entry of its own or a higher class that is not blocked
by its cap alone, as R78 says; a RESPONDER does so behind an EMERGENCY entry exactly where its sector has a claim, which is the limit of
R27. -/
theorem orderTest_behind {c : Cls} {sec : Sector} {e : WaitEntry} {s : State} (nc : c ≠ .emergency) (he : e ∈ s.waitList)
    (hs : e.sector = sec) (hc : e.cls.index ≤ c.index) (hb : blockedOnlyByCap s e = false)
    (hk : c = .responder → e.cls = .emergency → ∃ k ∈ s.claims, k.sector = sec) : orderTest c sec s = false := by
  have found : ∀ p : WaitEntry → Bool, p e = true → (s.waitList.filter (fun e => e.sector = sec)).any p = true := fun p hp =>
    List.any_eq_true.mpr ⟨e, List.mem_filter.mpr ⟨he, by simpa using hs⟩, hp⟩
  cases c with
  | emergency => exact absurd rfl nc
  | responder =>
    cases h : e.cls with
    | emergency =>
      obtain ⟨k, m, hk⟩ := hk rfl h
      simp only [orderTest, show s.claims.any (fun k => k.sector = sec) = true from
        List.any_eq_true.mpr ⟨k, m, by simpa using hk⟩, Bool.not_true, Bool.and_false]
    | responder =>
      simp only [orderTest, found (fun e => e.cls = .responder) (by simpa using h), Bool.not_true, Bool.false_and]
    | standard => rw [h] at hc; exact absurd hc (by decide)
    | bulk => rw [h] at hc; exact absurd hc (by decide)
  | standard =>
    have : e.cls ≠ .bulk := fun h => by rw [h] at hc; exact absurd hc (by decide)
    simp only [orderTest, found (fun e => e.cls ≠ .bulk && !blockedOnlyByCap s e) (by simp [this, hb]), Bool.not_true]
  | bulk => simp only [orderTest, found (fun e => !blockedOnlyByCap s e) (by simp [hb]), Bool.not_true]

/-! ### Claims made on arrival -/

/-- From `s` to `t` no session is made and none is freed. -/
abbrev SameInUse (s t : State) : Prop :=
  ∀ i, (t.record i).generation = (s.record i).generation ∧ (t.session? i).isSome = (s.session? i).isSome

theorem SameInUse.of_sessions {s t : State} (h : t.sessions = s.sessions) : SameInUse s t := fun i => by
  have e : t.record i = s.record i := congrArg (fun v => v.get i) h
  exact ⟨congrArg Record.generation e, congrArg (fun r => r.session.isSome) e⟩

theorem SameInUse.trans {s t u : State} (h : SameInUse s t) (k : SameInUse t u) : SameInUse s u := fun i =>
  ⟨(k i).1.trans (h i).1, (k i).2.trans (h i).2⟩

theorem SameInUse.foldl {α : Type} (f : State → α → State) (h : ∀ s a, SameInUse s (f s a)) (as : List α) (s : State) :
    SameInUse s (as.foldl f s) := by
  induction as generalizing s with
  | nil => exact fun _ => ⟨rfl, rfl⟩
  | cons a as ih => exact (h s a).trans (ih _)

theorem queueFrame_sessions (l : Link) (f : OutFrame) (s : State) : (queueFrame l f s).sessions = s.sessions := by
  unfold queueFrame
  split
  · split
    · rfl
    · unfold stall changeLinkState; split <;> rfl
  · rfl

theorem seize_sameInUse (k : RequestName) (v : RecordIndex × Session) (s : State) : SameInUse s (seize k v s) := fun i => by
  have e : (seize k v s).record i = (s.modRecord v.1 (fun r => { r with session := r.session.map (fun x =>
      { x with state := .reclaiming (s.timeBase + s.policy.globals.reclaimLimit) (some k) }) })).record i := rfl
  unfold State.session?
  rw [e, State.modRecord_record]
  split <;> simp_all

theorem makeClaim_sameInUse (e : WaitEntry) (vs : List (RecordIndex × Session)) (s : State) : SameInUse s (makeClaim e vs s) := by
  unfold makeClaim
  dsimp only
  refine SameInUse.trans ?_ (SameInUse.foldl _ (fun u v => .of_sessions (queueFrame_sessions _ _ u)) _ _)
  refine SameInUse.trans ?_ (SameInUse.foldl (fun s v => seize e.name v s) (fun s v => seize_sameInUse _ v s) _ _)
  exact .of_sessions (by simp only [State.modEntry_sessions, earmark, assignUnits, State.modClaim_sessions, State.modSector_sessions])

theorem claimAttempt_sameInUse (e : WaitEntry) (s : State) : SameInUse s (claimAttempt e s) := by
  unfold claimAttempt
  split
  · exact .of_sessions rfl
  · dsimp only
    split
    · exact SameInUse.trans (.of_sessions (State.modEntry_sessions _ _ _)) (makeClaim_sameInUse _ _ _)
    · exact .of_sessions (State.modEntry_sessions _ _ _)

/-- The own work of an ASK that waits makes no session: a claim made in it does not complete in it (R32). -/
theorem enterWait_sameInUse (l : Link) (f : RxFrame) (c : Cls) (sec : Sector) (s : State) :
    SameInUse s (enterWait l f c sec s) := by
  have h : ∀ u : State, u.sessions = s.sessions → (replyTo l f .queued u).sessions = s.sessions := fun u hu =>
    (queueFrame_sessions _ _ u).trans hu
  unfold enterWait
  dsimp only
  split
  · refine SameInUse.trans (.of_sessions (h _ ?_)) (claimAttempt_sameInUse _ _)
    exact State.modLink_sessions _ _ _
  · exact .of_sessions (h _ (State.modLink_sessions _ _ _))

end Sys2Proof.Machine
end

