-- ==== Sys2Proof/Laws/Events.lean ====
section
/-! SUPPORT. What the shared operations of an event do, said once: the queuing of a frame, the end of an event, the frame of an
engine event, a service with nobody waiting, and a release sequence with nothing to take back. -/

namespace Sys2Proof.Machine

/-! ### Tables -/

theorem vput_self {α : Type} {n : Nat} (v : Vector α n) (i : Fin n) : vput v i (v.get i) = v := by
  apply Vector.ext
  intro j hj
  by_cases h : i.val = j
  · subst h; simp [vput, Vector.get_eq_getElem]
  · simp [vput, Vector.getElem_set_ne _ _ h]

theorem vmod_congr {α : Type} {n : Nat} (v : Vector α n) (i : Fin n) {f g : α → α} (h : f (v.get i) = g (v.get i)) :
    vmod v i f = vmod v i g := by simp [vmod, h]

theorem vmod_id {α : Type} {n : Nat} (v : Vector α n) (i : Fin n) {f : α → α} (h : f (v.get i) = v.get i) :
    vmod v i f = v := by simp [vmod, h, vput_self]

theorem vput_vput {α : Type} {n : Nat} (v : Vector α n) (i : Fin n) (x y : α) :
    vput (vput v i x) i y = vput v i y := by
  apply Vector.ext
  intro j hj
  by_cases h : i.val = j
  · subst h; simp [vput]
  · simp [vput, Vector.getElem_set_ne _ _ h]

theorem vmod_vmod {α : Type} {n : Nat} (v : Vector α n) (i : Fin n) (f g : α → α) :
    vmod (vmod v i f) i g = vmod v i (fun x => g (f x)) := by
  simp [vmod, vput_vput]

theorem vmod_comm {α : Type} {n : Nat} (v : Vector α n) {i j : Fin n} (h : i ≠ j) (f g : α → α) :
    vmod (vmod v i f) j g = vmod (vmod v j g) i f := by
  apply Vector.ext
  intro k hk
  have e : ∀ (w : Vector α n), w[k] = w.get ⟨k, hk⟩ := fun w => rfl
  rw [e, e]
  simp only [get_vmod]
  split <;> split <;> simp_all

theorem vector_ext_get {α : Type} {n : Nat} {v w : Vector α n} (h : ∀ i : Fin n, v.get i = w.get i) : v = w := by
  apply Vector.ext
  intro i hi
  exact h ⟨i, hi⟩

theorem ofFn_get {α : Type} {n : Nat} (v : Vector α n) : Vector.ofFn (fun i => v.get i) = v :=
  vector_ext_get fun i => by rw [Vector.get_ofFn]

/-! ### The end of an event -/

/-- With every link busy, halted or without a frame, no transmission begins. -/
theorem beginTransmissions_quiet {s : State} (h : ∀ l, (s.link l).mayBegin = false) : beginTransmissions s = s := by
  have e : Vector.ofFn (fun l => if (s.link l).mayBegin then (s.link l).begin else s.link l) = s.links :=
    vector_ext_get fun l => by
      rw [Vector.get_ofFn, h l, if_neg (by decide)]; rfl
  unfold beginTransmissions
  rw [e]

/-- With one link that may have a frame to send, that link's transmission alone begins. -/
theorem beginTransmissions_one {s : State} (l : Link) (h : ∀ m, m ≠ l → (s.link m).mayBegin = false) :
    beginTransmissions s = s.modLink l (fun r => if r.mayBegin then r.begin else r) := by
  unfold beginTransmissions State.modLink
  congr 1
  apply vector_ext_get
  intro m
  rw [Vector.get_ofFn, get_vmod]
  by_cases hm : m = l
  · subst hm; rw [if_pos rfl]; rfl
  · rw [if_neg hm, h m hm, if_neg (by decide)]; rfl

theorem drainStalls_nil (n : Nat) {s : State} (h : s.work.stalled = []) : drainStalls n s = s := by
  cases n with
  | zero => rfl
  | succ n => unfold drainStalls; rw [h]

/-- The end of an event in which no link stalled. -/
theorem finishEvent_eq {s : State} (h : s.work.stalled = []) :
    finishEvent s = beginTransmissions { s with work := EventWork.none } := by
  unfold finishEvent; rw [drainStalls_nil _ h]

/-- The end of an event that stalled no link and left every link without a transmission to begin. -/
theorem finishEvent_quiet {s : State} (h : s.work.stalled = []) (q : ∀ l, (s.link l).mayBegin = false) :
    finishEvent s = { s with work := EventWork.none } := by
  rw [finishEvent_eq h]; exact beginTransmissions_quiet q

/-- The end of an event that stalled no link and left one link that may have a transmission to begin. -/
theorem finishEvent_one {s : State} (l : Link) (h : s.work.stalled = []) (q : ∀ m, m ≠ l → (s.link m).mayBegin = false) :
    finishEvent s = { s.modLink l (fun r => if r.mayBegin then r.begin else r) with work := EventWork.none } := by
  rw [finishEvent_eq h, beginTransmissions_one (s := { s with work := EventWork.none }) l q]; rfl

/-- Once transmissions have begun, none is left to begin (R136). -/
theorem begin_mayBegin (r : LinkRec) (h : r.mayBegin = true) : r.begin.mayBegin = false := by
  unfold LinkRec.begin
  cases hq : r.outbound with
  | nil => simp [LinkRec.mayBegin, hq] at h
  | cons f fs => simp [LinkRec.mayBegin]

/-! ### Queuing a frame -/

theorem queueFrame_room {l : Link} {f : OutFrame} {s : State} (ha : (s.link l).state = .attached)
    (hr : (s.link l).outbound.length < 128) :
    queueFrame l f s = s.modLink l (fun r => { r with outbound := r.outbound ++ [f] }) := by
  unfold queueFrame; rw [if_pos ha, if_pos (show _ < Config.storePlaces from hr)]

theorem queueFrame_gone {l : Link} {f : OutFrame} {s : State} (ha : (s.link l).state ≠ .attached) :
    queueFrame l f s = s := by
  unfold queueFrame; rw [if_neg ha]

theorem queueFrame_full {l : Link} {f : OutFrame} {s : State} (ha : (s.link l).state = .attached)
    (hr : 128 ≤ (s.link l).outbound.length) : queueFrame l f s = stall l s := by
  unfold queueFrame; rw [if_pos ha, if_neg (show ¬ _ < Config.storePlaces from Nat.not_lt.mpr hr)]

/-! ### A service with nobody waiting -/

/-- A service run of a sector with no claim and no QUEUED entry changes nothing (R72, R76). -/
theorem serviceRun_none {sec : Sector} {s : State} (he : ∀ e ∈ s.waitList, e.sector = sec → e.state ≠ .queued)
    (hc : ∀ c ∈ s.claims, c.sector ≠ sec) : serviceRun sec s = s := by
  have h1 : claimService sec s = s := by
    unfold claimService
    have : s.claims.filter (fun c => c.sector = sec) = [] := by
      apply List.filter_eq_nil_iff.mpr
      intro c m; simpa using hc c m
    rw [this]; rfl
  have h2 : scanOrder sec s = [] := by
    unfold scanOrder
    apply List.flatMap_eq_nil_iff.mpr
    intro c _
    apply List.filter_eq_nil_iff.mpr
    intro e m
    have := he e m
    simp only [decide_eq_true_eq]
    rintro ⟨a, _, b⟩
    exact this a b
  unfold serviceRun waitService
  rw [h1, h2]; rfl

/-- The settling of an event whose served sectors have nobody waiting and that freed no claim slot clears the event's work alone. -/
theorem settle_none {s : State} (h0 : s.work.freedSlots = 0)
    (h : ∀ sec ∈ s.work.serve, (∀ e ∈ s.waitList, e.sector = sec → e.state ≠ .queued) ∧ ∀ c ∈ s.claims, c.sector ≠ sec) :
    settle s = { s with work := { s.work with serve := [], freedSlots := 0 } } := by
  have fold : ∀ (l : List Sector), l.foldl (fun t sec => if sec ∈ s.work.serve then serviceRun sec t else t) s = s := by
    intro l
    induction l with
    | nil => rfl
    | cons a l ih =>
      rw [List.foldl_cons]
      by_cases ha : a ∈ s.work.serve
      · rw [if_pos ha, serviceRun_none (h a ha).1 (h a ha).2]; exact ih
      · rw [if_neg ha]; exact ih
  unfold settle
  rw [fold]
  simp only [h0]
  rfl

/-- An offer of slots with no marked entry changes nothing (R67). -/
theorem offerSlots_none (n : Nat) {s : State} (h : ∀ e ∈ s.waitList, e.claimPending = false) : offerSlots n s = s := by
  have h2 : offerOrder s = [] := by
    unfold offerOrder
    apply List.flatMap_eq_nil_iff.mpr
    intro c _
    apply List.filter_eq_nil_iff.mpr
    intro e m
    simp [h e m]
  induction n with
  | zero => rfl
  | succ n ih => unfold offerSlots; rw [h2]; exact ih

/-! ### A release sequence with nothing to take back -/

/-- A tenant with no session has none to be freed. -/
theorem sessionsOf_nil {t : Tenant} {p : Session → Bool} {s : State} (h : ∀ i, ∀ x ∈ s.session? i, x.tenant ≠ t) :
    sessionsOf t p s = [] := by
  unfold sessionsOf
  apply List.filter_eq_nil_iff.mpr
  intro i _
  cases hx : s.session? i with
  | none => simp
  | some x => simp [h i x hx]

/-- The release sequence of a tenant with no session and no entry empties the lanes, the account, the Tag Table and the store (R145). -/
theorem releaseSequence_bare {l : Link} {b : Bool} {s : State} (hs : ∀ i, ∀ x ∈ s.session? i, x.tenant ≠ l)
    (hw : ∀ e ∈ s.waitList, e.tenant ≠ l) (hv : s.work.serve = []) (hf : s.work.freedSlots = 0) :
    releaseSequence l b s = s.modLink l (fun r =>
      { r with
        priorityLane := [], ordinaryLane := [], allotment := 0, balance := 0, owed := 0
        tags := Vector.replicate 256 false, outbound := r.keptStore b, sending := if b then r.sending else none }) := by
  have h1 : s.waitList.filter (fun e => e.tenant = l ∧ e.state = .claiming) = [] := by
    apply List.filter_eq_nil_iff.mpr
    intro e m
    simp [hw e m]
  have h2 : s.waitList.filter (fun e => e.tenant ≠ l) = s.waitList := by
    apply List.filter_eq_self.mpr
    intro e m
    simpa using hw e m
  unfold releaseSequence
  simp only [State.modLink_waitList, h1, h2, List.map_nil]
  have h3 : ∀ u : State, endClaims [] u = u := fun _ => rfl
  rw [h3]
  have h4 : ∀ p, sessionsOf l p { (s.modLink l (fun r => { r with priorityLane := [], ordinaryLane := [] })) with
      waitList := s.waitList } = [] := fun p => sessionsOf_nil hs
  rw [h4]
  simp only [List.foldl_nil]
  rw [h4, List.foldl_nil]
  have h5 : ∀ u : State, u.work = s.work → settle u = { u with work := ⟨s.work.stalled, [], 0⟩ } := by
    intro u hu
    rw [settle_none (by rw [hu]; exact hf) (by intro sec m; rw [hu, hv] at m; cases m), hu]
  have hwork : (⟨s.work.stalled, [], 0⟩ : EventWork) = s.work := by rw [← hv, ← hf]
  rw [h5 _ (by rfl), hwork]
  simp only [State.modLink, vmod_vmod, LinkRec.keptStore, LinkRec.begun]

/-- A link stalled alone in an event has its release sequence at the end of it (R137). -/
theorem drainStalls_one {l : Link} {n : Nat} {s : State} (h : s.work.stalled = [l])
    (k : (releaseSequence l false { s with work := { s.work with stalled := [] } }).work.stalled = []) :
    drainStalls (n + 1) s = releaseSequence l false { s with work := { s.work with stalled := [] } } := by
  have e : drainStalls (n + 1) s = match s.work.stalled with
      | [] => s
      | l :: ls => drainStalls n (releaseSequence l false { s with work := { s.work with stalled := ls } }) := by rfl
  rw [e, h]
  exact drainStalls_nil n k

/-! ### The frame of an engine event -/

/-- An engine event whose frame is the arbiter's choice and of the length of its kind. -/
theorem engineEvent_turn {k : FrameKind} {body : Link → RxFrame → State → State} {l : Link} {x : Lane} {f : RxFrame} {s : State}
    (hr : s.resetLow = false) (hc : arbiterChoice s = some (l, x, f)) (hk : f.kind = some k)
    (hl : f.lengthByte.toNat = k.slots) :
    engineEvent k body s = .next (finishEvent (finishFrame l x f
      (body l f { s with work := EventWork.none, arbiter := s.arbiter.served l x }))) := by
  unfold engineEvent
  rw [hc]
  simp only [eventWhen, hr, hk, decide_true, Bool.and_self, Bool.not_false, if_true, runEvent, carryOut, hl]

/-- What the arbiter's choice says of its link (R131). -/
theorem arbiterChoice_spec {l : Link} {x : Lane} {f : RxFrame} {s : State} (h : arbiterChoice s = some (l, x, f)) :
    (s.link l).state = .attached ∧ (s.link l).outbound.length + 2 ≤ 128 ∧ ((s.link l).lane x).head? = some f := by
  unfold arbiterChoice at h
  obtain ⟨⟨a, b⟩, hc, h⟩ := Option.bind_eq_some_iff.mp h
  obtain ⟨g, hg, h⟩ := Option.map_eq_some_iff.mp h
  simp only [Prod.mk.injEq] at h
  obtain ⟨rfl, rfl, rfl⟩ := h
  have he : (s.link a).eligible b = true := by
    unfold chosenLane at hc
    have key : ∀ (y : Lane) (z : Link), firstEligible y s = some z → (s.link z).eligible y = true := by
      intro y z hz
      have := List.find?_some hz
      exact this
    have : ∀ (p q : Option (Link × Lane)), p.or q = some (a, b) → p = some (a, b) ∨ q = some (a, b) := by
      intro p q h; cases p with
      | none => exact .inr (by simpa using h)
      | some v => exact .inl (by simpa using h)
    split at hc <;> rcases this _ _ hc with h | h <;>
      (obtain ⟨z, hz, h⟩ := Option.map_eq_some_iff.mp h; cases h; exact key _ _ hz)
  simp only [LinkRec.eligible, Bool.and_eq_true, Config.freePlacesToServe, Config.storePlaces] at he
  exact ⟨of_decide_eq_true he.1.2, of_decide_eq_true he.2, hg⟩

/-- The end of an engine event that left its link ATTACHED with frames in its store and every other link without a transmission to begin:
the frame leaves its lane, its slots are owed, and an idle link begins to send (R128, R129, R136). -/
theorem finishFrame_finishEvent {l : Link} {x : Lane} {f : RxFrame} {u : State} (ha : (u.link l).state = .attached)
    (ho : (u.link l).outbound ≠ []) (hs : u.work.stalled = []) (q : ∀ m, m ≠ l → (u.link m).mayBegin = false) :
    finishEvent (finishFrame l x f u) = { u with
      links := vmod u.links l (fun r =>
        let r := match x with
          | .priority => { r with priorityLane := r.priorityLane.tail, owed := r.owed + f.slots }
          | .ordinary => { r with ordinaryLane := r.ordinaryLane.tail, owed := r.owed + f.slots }
        if r.mayBegin then r.begin else r)
      work := EventWork.none } := by
  have e : finishFrame l x f u = u.modLink l (fun r => match x with
      | .priority => { r with priorityLane := r.priorityLane.tail, owed := r.owed + f.slots }
      | .ordinary => { r with ordinaryLane := r.ordinaryLane.tail, owed := r.owed + f.slots }) := by
    unfold finishFrame
    rw [if_pos ha]
    unfold owe
    have : ∀ v : State, (v.link l).outbound ≠ [] → creditIfIdle l v = v := by
      intro v hv; unfold creditIfIdle; simp [hv]
    rw [this]
    · cases x <;> simp only [State.modLink, vmod_vmod]
    · cases x <;> simp [ho]
  rw [e, finishEvent_one l]
  · simp only [State.modLink, vmod_vmod]
  · exact hs
  · intro m hm; rw [State.modLink_link, if_neg hm]; exact q m hm

end Sys2Proof.Machine
end

