-- ==== Sys2Proof/Tests/Slice0.lean ====
section
/-! SUPPORT. Tests against the manual's own figures, and for every statement with hypotheses one theorem `meets_…` that shows
states and operands meeting them, clause by clause, at boundary values where a clause has a range. -/

namespace Sys2Proof.Tests

open Sys2Proof.Machine

/-! ### Small states -/

/-- The device address with ADR1 and ADR0 low (R150). -/
def dev : BusAddress := 0x58

/-- A link that is ATTACHED and at rest. -/
def att : LinkRec := { LinkRec.reset with state := .attached, lock := true, allotment := 48, balance := 48 }

/-- A sector of capacity 8 with RE 2 and RR 1, every position below the capacity FREE. -/
def open8 : PoolSector where
  effective := ⟨8, 2, 1, 1000, 50, 4, false⟩
  pending := ⟨8, 2, 1, 1000, 50, 4, false⟩
  positions := Vector.ofFn (fun u : UnitNo => if u.val < 8 then .free else .retired)
  holdings := Vector.replicate 4 0

/-- The part ACTIVE at 5000 ms, with all four links ATTACHED and at rest and every sector open. -/
def up : State := { State.reset with
  timeBase := 5000
  run := .active
  sectors := Vector.replicate 8 open8
  meters := Vector.replicate 8 { Meter.reset with state := .counting 5000 }
  links := Vector.replicate 4 att }

/-- A received frame of two slots, its check left out: a frame in a lane has passed it. -/
def two (kind tag cls : Byte) (rest : List Byte) : RxFrame := [kind, 2, tag, cls, 0] ++ rest ++ List.replicate (11 - rest.length) 0

/-- A received frame of one slot. -/
def one (kind tag cls b5 : Byte) : RxFrame := [kind, 1, tag, cls, 0, b5, 0, 0]

/-- An ASK of class `cls` for `units` units on beam 12, of sector 3. -/
def ask (tag cls units : Byte) : RxFrame := two 2 tag cls [12, units]

/-- A TAKEN, MISSED, END or YIELDED of record 0 and this generation. -/
def naming (kind : Byte) (generation : Byte) : RxFrame := two kind 9 0 [0, 0, 0, 0, 0, generation]

/-- The frame stands in the ordinary lane of link 0. -/
def ord (f : RxFrame) (s : State) : State :=
  s.modLink 0 (fun r => { r with ordinaryLane := [f], balance := r.balance - f.slots })

/-- The frame stands in the priority lane of link 0. -/
def pri (f : RxFrame) (s : State) : State :=
  s.modLink 0 (fun r => { r with priorityLane := [f], balance := r.balance - f.slots })

/-- A session of tenant 0 on units 0 and 1 of sector 3. -/
def call (c : Cls) (x : SessionState) : Session := ⟨0, c, 3, [0, 1], x, 1000, 2, 0⟩

/-- The session in record 0, on its units. -/
def hold (y : Session) (s : State) : State :=
  (s.setSession 0 y).modSector 3 (fun p => p.assign y.units (.held ⟨0, 0⟩))

/-- A QUEUED entry of the tenant for one unit of sector 3. -/
def entry (t : Tenant) (tag : Tag) (c : Cls) : WaitEntry :=
  ⟨t, tag, c, 3, 1, 2000, if c = .emergency then none else some 5000, if c = .emergency then some 5000 else none, false, false,
    .queued⟩

/-- The entries wait, their tags outstanding. -/
def waiting (es : List WaitEntry) (s : State) : State :=
  { es.foldl (fun s e => setTag e.name true s) s with waitList := es }

/-- Sector 3 with no unit left. -/
def full (s : State) : State := s.modSector 3 (fun p => p.assign (List.finRange 64) (.held ⟨9, 0⟩))

/-- 16 claims of sector 7. -/
def claims16 (s : State) : State :=
  { s with claims := (List.range 16).map (fun n => ⟨⟨3, BitVec.ofNat 8 n⟩, .emergency, 7, 1, [], []⟩) }

/-- The state a command answers with. -/
def after (c : Instr) (s : State) : State :=
  match exec c s with
  | .next t => t
  | .fault _ => s
  | .refused _ => s

/-! ### Well-formedness -/

/-- A low pulse shorter than 10 µs must not be applied (R166). -/
theorem test_wellFormed_refuses_short_pulse : Instr.wellFormed (.fullReset 9 false false) = false := by decide
theorem test_wellFormed_accepts_shortest_pulse : Instr.wellFormed (.fullReset 10 true false) = true := by decide
theorem test_no_row_has_bits : decodeTableWord 8 0 = none := by decide

/-! ### The manual's figures -/

/-- The check of "123456789" is 29B1h (R117). -/
theorem test_crc : crc [0x31, 0x32, 0x33, 0x34, 0x35, 0x36, 0x37, 0x38, 0x39] = 0x29B1#16 := by decide +kernel

/-- W = 30 and a count of 7 give 23 (R104). -/
theorem test_sample : rateSample 7 30 = 23 := by decide
/-- W = 5 saturates at a count of 3277 (R104). -/
theorem test_sample_saturates : rateSample 3277 5 = 65535 ∧ rateSample 3276 5 = 65520 := by decide
/-- With k = 16 the new A is 16 × S (R105). -/
theorem test_smooth_no_memory : smooth 100 32000 16 = 1600 ∧ smooth 2000 0 16 = 32000 := by decide
/-- The step is truncated toward zero: with k = 1, A stops 15 short on either side (R105). -/
theorem test_smooth_truncates : smooth 10 145 1 = 145 ∧ smooth 10 175 1 = 175 ∧ smooth 10 144 1 = 145 := by decide
/-- A smoothed rate equal to T gives 256, and with T = 1 an A of 256 saturates L (R106). -/
theorem test_ratio : loadRatio 16000 1000 = 256 ∧ loadRatio 256 1 = 4095 := by decide
/-- A sector at twice a class's onset gives that class half (R107). -/
theorem test_fraction : fractionOf .standard ⟨256, 32, 8000, 0, 0, true⟩ 512 = 128 := by decide
/-- The credit-return codes: 5 owed return 4, and 40 return 32 (R129). -/
theorem test_return_codes : returnValue (returnCode 5) = 4 ∧ returnValue (returnCode 40) = 32 ∧ returnCode 0 = 0 := by decide
/-- The first tenant counter is number 24 and the VICTIM counter of EMERGENCY number 16 (R151). -/
theorem test_counter_numbers :
    (classCounterNo .victim .emergency).val = 16 ∧ (tenantCounterNo .checkFail 0).val = 24 ∧
      (tenantCounterNo .stall 3).val = 47 := by decide
/-- Beam 12 maps to sector 3 after reset (R10). -/
theorem test_beam : beamSector 12 State.reset = some 3 ∧ beamSector 32 State.reset = none := by decide
/-- FREE positions 3, 4, 9 and 17: an allocation of 3 takes 3, 4 and 9 (R3). -/
theorem test_lowest_positions :
    (({ open8 with positions := Vector.ofFn (fun u : UnitNo => if u ∈ [3, 4, 9, 17] then .free else .retired) } :
      PoolSector).freeList.take 3) = [3, 4, 9] := by decide +kernel
/-- The bytes of a CREDIT with code 1: kind 85h, length 1 (R119, R120). -/
theorem test_credit_bytes : (OutFrame.credit.bytes 1).take 6 = [0x85, 1, 0, 0, 1, 0] ∧ (OutFrame.credit.bytes 1).length = 8 := by
  decide +kernel

/-! ### What stands in a table of records with one in use -/

/-- The Session Table with the session `y` in record `j` and no other. -/
abbrev holdsOne (s : State) (j : RecordIndex) (y : Session) : Prop :=
  s.sessions = vput (Vector.replicate 512 ⟨0, none⟩) j ⟨0, some y⟩

/-- The Session Table with no record in use. -/
abbrev holdsNone (s : State) : Prop := s.sessions = Vector.replicate 512 ⟨0, none⟩

theorem session?_one {s : State} {j : RecordIndex} {y : Session} (h : holdsOne s j y) (i : RecordIndex) :
    s.session? i = if i = j then some y else none := by
  unfold State.session? State.record
  rw [h]
  by_cases e : i = j
  · subst e; simp
  · rw [get_vput_ne _ e, if_neg e]; simp [Vector.get_eq_getElem]

theorem session?_none {s : State} (h : holdsNone s) (i : RecordIndex) : s.session? i = none := by
  unfold State.session? State.record
  rw [h]; simp [Vector.get_eq_getElem]

theorem all_one {s : State} {j : RecordIndex} {y : Session} (h : holdsOne s j y) {P : RecordIndex → Session → Prop} (p : P j y) :
    ∀ i, ∀ z ∈ s.session? i, P i z := by
  intro i z m
  rw [session?_one h] at m
  split at m
  · rename_i e; subst e; cases m; exact p
  · cases m

theorem all_none {s : State} (h : holdsNone s) {P : RecordIndex → Session → Prop} : ∀ i, ∀ z ∈ s.session? i, P i z := by
  intro i z m; rw [session?_none h] at m; cases m

theorem record_one {s : State} {j : RecordIndex} {y : Session} (h : holdsOne s j y) : s.record j = ⟨0, some y⟩ := by
  unfold State.record; rw [h]; simp

/-- A sum over the records is what its one record in use gives. -/
theorem sum_one {s : State} {j : RecordIndex} {y : Session} (h : holdsOne s j y) {f : Option Session → Nat} (hf : f none = 0) :
    ((List.finRange 512).map (fun r => f (s.session? r))).sum = f (some y) := by
  have e : (fun i : RecordIndex => f (s.session? i)) = fun i => if i = j then f (some y) else 0 := by
    funext i
    rw [session?_one h]
    split
    · rfl
    · exact hf
  rw [e, ← List.ofFn_eq_map, List.sum_ofFn, Finset.sum_ite_eq' Finset.univ j, if_pos (Finset.mem_univ j)]

theorem candidateUnits_one {s : State} {j : RecordIndex} {y : Session} (h : holdsOne s j y) (e : WaitEntry) :
    candidateUnits e s = unitsOffered e (some y) := sum_one h rfl

theorem candidateUnits_none {s : State} (h : holdsNone s) (e : WaitEntry) : candidateUnits e s = 0 := by
  have hf : (fun i : RecordIndex => unitsOffered e (s.session? i)) = fun _ => 0 := by
    funext i
    rw [session?_none h]
    rfl
  unfold candidateUnits
  rw [hf, ← List.ofFn_eq_map, List.sum_ofFn, Finset.sum_const_zero]

theorem candidates_one {s : State} {j : RecordIndex} {y : Session} (h : holdsOne s j y) (e : WaitEntry) :
    candidates e s = (List.finRange 512).filterMap (fun i =>
      if i = j then (if y.sector = e.sector ∧ e.mayTake y.cls ∧ y.seizable then some (i, y) else none) else none) := by
  unfold candidates
  congr 1
  funext i
  rw [session?_one h]
  by_cases e : i = j
  · rw [if_pos e, if_pos e]
  · rw [if_neg e, if_neg e]

/-- The Session Table with the session `y` in record 0, of generation `n`, `z` in record 1 and no other. -/
abbrev holdsTwo (s : State) (n : Fin 16) (y z : Session) : Prop :=
  s.sessions = vput (vput (Vector.replicate 512 ⟨0, none⟩) 1 ⟨0, some z⟩) 0 ⟨n, some y⟩

theorem record_two {s : State} {n : Fin 16} {y z : Session} (h : holdsTwo s n y z) (i : RecordIndex) :
    s.record i = if i = 0 then ⟨n, some y⟩ else if i = 1 then ⟨0, some z⟩ else ⟨0, none⟩ := by
  unfold State.record
  rw [h]
  by_cases e : i = 0
  · subst e; simp
  · rw [get_vput_ne _ e]
    by_cases k : i = 1
    · subst k; simp
    · rw [get_vput_ne _ k]; simp [Vector.get_eq_getElem, e, k]

theorem all_two {s : State} {n : Fin 16} {y z : Session} (h : holdsTwo s n y z) {P : RecordIndex → Session → Prop} (p : P 0 y) (q : P 1 z) :
    ∀ i, ∀ w ∈ s.session? i, P i w := by
  intro i w m
  unfold State.session? at m
  rw [record_two h] at m
  by_cases e : i = 0
  · subst e; cases m; exact p
  · by_cases k : i = 1
    · subst k; cases m; exact q
    · simp [e, k] at m

theorem candidates_two {s : State} {n : Fin 16} {y z : Session} (h : holdsTwo s n y z) (no : y.sector ≠ z.sector) (e : WaitEntry)
    (he : e.sector = z.sector) :
    candidates e s = (List.finRange 512).filterMap (fun i =>
      if i = 1 then (if z.sector = e.sector ∧ e.mayTake z.cls ∧ z.seizable then some (i, z) else none) else none) := by
  unfold candidates State.session?
  congr 1
  funext i
  rw [record_two h]
  by_cases k : i = 0
  · subst k; exact if_neg fun c => no (c.1.trans he)
  · by_cases j : i = 1
    · subst j; rfl
    · rw [if_neg k, if_neg j, if_neg j]

/-- The tags outstanding are those of the entries that wait. -/
theorem waiting_tags (es : List WaitEntry) (l : Link) (g : Fin 256) :
    ((waiting es up).link l).tags.get g = true ↔ ∃ e ∈ es, e.tenant = l ∧ e.tag.toNat = g.val := by
  have step : ∀ (es : List WaitEntry) (s : State), ((es.foldl (fun s e => setTag e.name true s) s).link l).tags.get g = true ↔
      (s.link l).tags.get g = true ∨ ∃ e ∈ es, e.tenant = l ∧ e.tag.toNat = g.val := by
    intro es
    induction es with
    | nil => simp
    | cons d es ih =>
      intro s
      rw [List.foldl_cons, ih]
      have h : ((setTag d.name true s).link l).tags.get g = true ↔
          (d.tenant = l ∧ d.tag.toNat = g.val) ∨ (s.link l).tags.get g = true := by
        unfold setTag State.modLink State.link
        rw [get_vmod]
        by_cases a : l = d.tenant
        · rw [if_pos (show l = d.name.tenant from a)]
          by_cases b : g = tagIndex d.tag
          · subst b; simp [a, WaitEntry.name, tagIndex]
          · rw [get_vput_ne _ (show g ≠ tagIndex d.name.tag from b)]
            have : d.tag.toNat ≠ g.val := fun c => b (Fin.ext c.symm)
            simp [this]
        · rw [if_neg (show l ≠ d.name.tenant from a)]
          simp [Ne.symm a]
      rw [h, List.exists_mem_cons_iff, or_comm (a := (d.tenant = l ∧ d.tag.toNat = g.val)), or_assoc]
  have h0 : (up.link l).tags.get g = false := by
    have : (up.link l).tags = Vector.replicate 256 false := by fin_cases l <;> rfl
    rw [this]; simp [Vector.get_eq_getElem]
  exact (step es up).trans (by simp [h0])

/-- Waiting entries are the list's and the Tag Tables' alone. -/
theorem waiting_keeps (es : List WaitEntry) (s : State) :
    (waiting es s).sessions = s.sessions ∧ (waiting es s).claims = s.claims ∧ (waiting es s).policy = s.policy := by
  have step : ∀ (es : List WaitEntry) (s : State), let u := es.foldl (fun s e => setTag e.name true s) s
      u.sessions = s.sessions ∧ u.claims = s.claims ∧ u.policy = s.policy := by
    intro es
    induction es with
    | nil => exact fun s => ⟨rfl, rfl, rfl⟩
    | cons d es ih => exact fun s => ih _
  exact step es s

/-- All links are ATTACHED, and the tags outstanding are those of the entries. -/
def linksOf (es : List WaitEntry) (s : State) : Prop :=
  ∀ l, (s.link l).tags = ((waiting es up).link l).tags ∧ (s.link l).state = .attached

theorem linksOf_waiting {es : List WaitEntry} {s : State} (h : s.links = up.links) : linksOf es (waiting es s) := by
  have step : ∀ (es : List WaitEntry) (s u : State), s.links = u.links → ∀ l : Link,
      (es.foldl (fun s e => setTag e.name true s) s).link l = (es.foldl (fun s e => setTag e.name true s) u).link l ∧
        ((es.foldl (fun s e => setTag e.name true s) s).link l).state = (s.link l).state := by
    intro es
    induction es with
    | nil => exact fun s u h l => ⟨congrArg (fun v => v.get l) h, rfl⟩
    | cons d es ih =>
      intro s u h l
      have k : (setTag d.name true s).links = (setTag d.name true u).links := by
        unfold setTag State.modLink; rw [h]
      refine ⟨(ih _ _ k l).1, (ih _ _ k l).2.trans ?_⟩
      unfold setTag
      rw [State.modLink_link]
      split <;> rfl
  have a : ∀ l, (up.link l).state = .attached := by decide +kernel
  have b : ∀ l, s.link l = up.link l := fun l => congrArg (fun v => v.get l) h
  exact fun l => ⟨congrArg LinkRec.tags (step es s up h l).1, (step es s up h l).2.trans ((congrArg LinkRec.state (b l)).trans (a l))⟩

theorem linksOf_mod {es : List WaitEntry} {s : State} {l : Link} {f : LinkRec → LinkRec}
    (hf : ∀ r, (f r).tags = r.tags ∧ (f r).state = r.state) (h : linksOf es s) : linksOf es (s.modLink l f) := by
  intro m
  rw [State.modLink_link]
  split
  · exact ⟨(hf _).1.trans (h m).1, (hf _).2.trans (h m).2⟩
  · exact h m

/-- The links alone decide it. -/
theorem linksOf_congr {es : List WaitEntry} {s t : State} (h : t.links = s.links) (k : linksOf es s) : linksOf es t := by
  intro l
  have e : t.link l = s.link l := congrArg (fun v => v.get l) h
  rw [e]; exact k l

/-- A state with all links ATTACHED whose entries and claims agree, and each of whose victims is listed by its claim. -/
theorem books_of {es : List WaitEntry} {cs : List Claim} {s : State} (hw : s.waitList = es) (hc : s.claims = cs)
    (hp : s.policy = up.policy) (hl : linksOf es s)
    (agree : (es.map WaitEntry.name).Nodup ∧ (cs.map Claim.claimant).Nodup ∧
      (∀ c ∈ cs, ∃ e ∈ es, e.name = c.claimant ∧ e.state = .claiming ∧ e.sector = c.sector ∧ e.cls = c.cls ∧ e.units = c.need) ∧
      (∀ e ∈ es, e.state = .claiming → ∃ c ∈ cs, c.claimant = e.name) ∧
      ∀ e ∈ es, (e.state = .claiming ∨ e.claimPending = true → e.cls.counted = false) ∧
        (e.claimPending = true → e.state = .queued) ∧ (e.cls = .emergency → e.waitDeadline = none) ∧
        (e.cls ≠ .emergency → e.escalationDeadline = none))
    (hs : ∀ i, ∀ y ∈ s.session? i, ∀ n, y.claim? = some n →
      ∃ c ∈ cs, c.claimant = n ∧ c.sector = y.sector ∧ ⟨i, (s.record i).generation⟩ ∈ c.victims) : BooksInv s := by
  obtain ⟨a, b, c, d, e⟩ := agree
  subst hw hc
  refine ⟨a, fun l g => by rw [(hl l).1]; exact waiting_tags _ l g, b, c, d, fun x m => ?_, fun i y m => ⟨(hl _).2, hs i y m⟩, ?_⟩
  · obtain ⟨p, q, r, u⟩ := e x m
    exact ⟨p, q, r, u, (hl _).2⟩
  · unfold State.classPolicy; rw [hp]; rfl

/-! ### States that meet the statements' hypotheses -/

/-- A queue with a command, and an empty one. -/
theorem meets_StepTakesFront : ({ up with pending := [.ask, .look] } : State).pending = .ask :: [.look] ∧ up.pending = [] := by decide

theorem meets_OnlyShortPulseStops : Instr.wellFormed .ask = true ∧ Instr.wellFormed (.fullReset 9 true true) = false := by decide

/-- A command of a link, with its next state; the clauses on the port and the settings admit it too. -/
theorem meets_WholePartFrames : exec (.lockFall 1) up = .next (after (.lockFall 1) up) ∧ Instr.busRow (.lockFall 1) = false :=
  ⟨rfl, rfl⟩

theorem meets_ResetLowHolds :
    ({ up with resetLow := true } : State).resetLow = true ∧ Instr.busRow (.windowStatusRead dev false) = true ∧
      Instr.busRow .ask = false ∧ (∀ l, Instr.ask ≠ .lockRise l) := by decide

theorem meets_FullResetRestores : 10 ≤ 10 := by decide

/-- The last value but one and the last value of the Time Base. -/
theorem meets_TickAdvances :
    (Ready { up with timeBase := 2 ^ 40 - 2 } ∧ 2 ^ 40 - 2 < 2 ^ 40) ∧
      Ready { up with timeBase := 2 ^ 40 - 1 } ∧ 2 ^ 40 - 1 < 2 ^ 40 := by decide +kernel

/-- Link 1 ABSENT and HALTED with its lock low, PRESENT and HALTED with its lock high; and an input already at the level. -/
theorem meets_LockChangesPresence :
    (∀ x ∈ [LinkState.absent, .halted],
      let s := up.modLink 1 (fun _ => { LinkRec.reset with state := x })
      Ready s ∧ (s.link 1).lock = false ∧ ((s.link 1).state = .absent ∨ (s.link 1).state = .halted) ∧
        (s.link 1).outbound = []) ∧
    (∀ x ∈ [LinkState.present, .halted],
      let s := up.modLink 1 (fun _ => { LinkRec.reset with state := x, lock := true })
      Ready s ∧ (s.link 1).lock = true ∧ ((s.link 1).state = .present ∨ (s.link 1).state = .halted)) ∧
    (Ready up ∧ (up.link 1).lock = true) ∧
    (let s := up.modLink 1 (fun _ => LinkRec.reset)
     Ready s ∧ (s.link 1).lock = false) := by decide +kernel

/-- A claim of tenant `t` with this need, unit 5 earmarked, whose victim is record 0. -/
def claimOn (t : Tenant) (need : Nat) (c : Cls := .emergency) : Claim := ⟨⟨t, 7⟩, c, 3, need, [5], [⟨0, 0⟩]⟩

/-- Its claimant's entry. -/
def claimant (t : Tenant) (need : Nat) (c : Cls := .emergency) : WaitEntry := { entry t 7 c with units := need, state := .claiming }

/-- Tenant 0's session on units 0 and 1 is the claim's only victim. -/
def claimed (t : Tenant) (need : Nat) : State :=
  { (waiting [claimant t need] (hold (call .bulk (.reclaiming 9000 (some ⟨t, 7⟩))) up)).modSector 3
      (fun p => p.assign [5] (.earmarked ⟨t, 7⟩)) with claims := [claimOn t need] }

/-- Tenant 0's victim session in record 0. -/
abbrev victim (t : Tenant) : Session := call .bulk (.reclaiming 9000 (some ⟨t, 7⟩))

/-- A state whose books are those of `claimed 1 4`. -/
theorem claimed_books {s : State} (hw : s.waitList = [claimant 1 4]) (hc : s.claims = [claimOn 1 4])
    (hs : holdsOne s 0 (victim 1)) (hp : s.policy = up.policy) (hl : linksOf [claimant 1 4] s) : BooksInv s :=
  books_of hw hc hp hl (by decide) (all_one hs (fun n m => by
    cases m
    exact ⟨_, List.mem_singleton_self _, rfl, rfl, by rw [record_one hs]; exact List.mem_singleton_self _⟩))

theorem withClaims_keeps (s : State) (cs : List Claim) :
    ({ s with claims := cs } : State).links = s.links ∧ ({ s with claims := cs } : State).policy = s.policy ∧
      ({ s with claims := cs } : State).waitList = s.waitList ∧ ({ s with claims := cs } : State).claims = cs := ⟨rfl, rfl, rfl, rfl⟩

theorem claimed_links (t : Tenant) (n : Nat) : linksOf [claimant t n] (claimed t n) := by
  have h : (claimed t n).links =
      ((waiting [claimant t n] (hold (call .bulk (.reclaiming 9000 (some ⟨t, 7⟩))) up)).modSector 3
        (fun p => p.assign [5] (.earmarked ⟨t, 7⟩))).links := (withClaims_keeps _ _).1
  exact linksOf_congr (h.trans (State.modSector_links _ _ _)) (linksOf_waiting (by simp [hold, State.setSession]))

theorem meets_DepartureTakesAllBack :
    BooksInv (claimed 1 4) ∧ ((claimed 1 4).link 0).state = .attached ∧ (claimed 1 4).resetLow = false ∧
      ((claimed 1 4).link 0).lock = true ∧ Addressed dev (claimed 1 4) ∧ (0xFE : Byte).getLsbD (0 : Link).val = false :=
  ⟨claimed_books rfl rfl rfl rfl (claimed_links 1 4), by decide +kernel, rfl, by decide +kernel, by decide +kernel, by decide⟩

theorem meets_JoinAnswered :
    ∀ x ∈ [LinkState.present, .attached, .halted],
      let s := up.modLink 1 (fun r => { r with state := x })
      Ready s ∧ (s.link 1).lock = true ∧ (s.link 1).state = x ∧ (s.link 1).outbound.length < 128 := by decide +kernel

/-- A slot of a frame of the given bytes. -/
def slot (a b c d e f : Byte) : Slot := let k := crc [a, b, c, d, e, f]; #v[a, b, c, d, e, f, k.extractLsb' 8 8, k.extractLsb' 0 8]

/-- The first slot of a frame of four, and a good JOIN. -/
theorem meets_ReceiptCollectsAndJoins :
    Ready up ∧ (up.link 0).lock = true ∧
    (let f : RxFrame := (up.link 0).partialFrame ++ (slot 2 4 0 0 0 0).toList
     f.slots < slotsToCollect f.lengthByte) ∧
    (let f : RxFrame := (up.link 0).partialFrame ++ (slot 1 1 7 0 0 0).toList
     slotsToCollect f.lengthByte ≤ f.slots ∧ f.check = .good ∧ f.kind = some .join ∧ f.lengthByte = 1) := by decide +kernel

/-- The last slot of a two-slot frame whose first is collected; its check bytes are `x` added to the right ones. -/
def second (kind : Byte) (first : Slot) (x : BitVec 16) : Slot :=
  let k := crc (first.toList ++ [kind, 0, 0, 0, 0, 0]) ^^^ x
  #v[kind, 0, 0, 0, 0, 0, k.extractLsb' 8 8, k.extractLsb' 0 8]

/-- Frames of failed, poisoned and good check, the good ones of an unknown kind, a JOIN of length 2, and a LOOK on a PRESENT link. -/
theorem meets_UnfitFrameDiscarded :
    (let x := slot 2 1 0 0 0 1
     let f : RxFrame := (x.set 7 0).toList
     Arrives 0 (x.set 7 0) f up ∧ f.check = .failed) ∧
    (let x : Slot := let k := ~~~ crc [8, 1, 0, 0, 0, 0]; #v[8, 1, 0, 0, 0, 0, k.extractLsb' 8 8, k.extractLsb' 0 8]
     Arrives 0 x x.toList up ∧ RxFrame.check x.toList = .poisoned) ∧
    (let x := slot 0x0A 1 0 0 0 0
     Arrives 0 x x.toList up ∧ RxFrame.check x.toList = .good ∧ RxFrame.kind x.toList = none) ∧
    (let a : Slot := #v[1, 2, 0, 0, 0, 0, 0, 0]
     let s := up.modLink 0 (fun r => { r with partialFrame := a.toList })
     let f : RxFrame := a.toList ++ (second 0 a 0).toList
     Arrives 0 (second 0 a 0) f s ∧ f.check = .good ∧ f.kind = some .join ∧ f.lengthByte ≠ 1) ∧
    (let s := up.modLink 0 (fun r => { r with state := .present })
     let x := slot 8 1 0 0 0 0
     Arrives 0 x x.toList s ∧ RxFrame.check x.toList = .good ∧ RxFrame.kind x.toList ≠ none ∧
       RxFrame.kind x.toList ≠ some .join ∧ (s.link 0).state ≠ .attached) := by
  refine ⟨?_, ?_, ?_, ?_, ?_⟩ <;> decide +kernel

/-- A balance of 0 and one of exactly the frame's slot. -/
theorem meets_CreditTestDecides :
    let x := slot 8 1 0 0 0 0
    let s := fun n => up.modLink 0 (fun r => { r with balance := n })
    (∀ n ∈ [0, 1], Arrives 0 x x.toList (s n) ∧ ((s n).link 0).state = .attached) ∧ RxFrame.check x.toList = .good ∧
      RxFrame.kind x.toList = some .look ∧ ((s 0).link 0).balance < RxFrame.slots x.toList ∧
      RxFrame.slots x.toList ≤ ((s 1).link 0).balance := by decide +kernel

/-- A CLEARED in transmission, alone in the store with credits owed and without, and before another frame. -/
theorem meets_TransmissionEndGoesOn :
    ∀ p ∈ [([], 0), ([], 1), ([OutFrame.vacate ⟨0, 0⟩], 40)],
      let s := up.modLink 0 (fun r =>
        { r with outbound := .cleared :: p.1, sending := some ⟨0, OutFrame.cleared.bytes 0⟩, owed := p.2 })
      Ready s ∧ (s.link 0).lock = true ∧ (s.link 0).state ≠ .halted ∧ (s.link 0).sending.isSome = true ∧
        (s.link 0).outbound = .cleared :: p.1 := by decide +kernel

/-- A GRANTED with the longest unit list. -/
theorem meets_TransmissionEndGoesOn_bytes :
    ∃ us : List UnitNo, us.length = 8 ∧ ∀ tag cls h sec vs,
      OutFrame.replyGranted 7 2 ⟨511, 15⟩ 3 us = .replyGranted tag cls h sec vs → vs.length ≤ 8 :=
  ⟨[0, 1, 2, 3, 4, 5, 6, 63], rfl, fun _ _ _ _ _ h => by cases h; decide⟩

/-- A choice of each kind of lane. -/
theorem meets_ArbiterChooses :
    arbiterChoice (pri (ask 1 0 1) (ord (ask 2 2 1) up)) = some (0, .priority, ask 1 0 1) ∧
      arbiterChoice (ord (ask 2 2 1) up) = some (0, .ordinary, ask 2 2 1) ∧ arbiterChoice up = none := by decide +kernel

theorem meets_WrongLengthRefused :
    let f : RxFrame := one 2 5 0 0
    (Instr.ask, FrameKind.ask) ∈ engineRows ∧ Ready (ord f up) ∧ arbiterChoice (ord f up) = some (0, .ordinary, f) ∧
      f.kind = some .ask ∧ ((ord f up).link 0).lock = true ∧ f.lengthByte.toNat ≠ FrameKind.ask.slots := by decide +kernel

/-- STANDBY with a class byte of 3 and of 4; ACTIVE with the tag outstanding, a class byte of 4, a beam of 32, and a CLOSED beam. -/
theorem meets_AskRefusedUncounted :
    (let s := ord (ask 1 3 1) { up with run := .standby }
     EngineTurn .ask 0 .ordinary (ask 1 3 1) s ∧ s.run = .standby ∧ Cls.ofByte (ask 1 3 1).cls = some .bulk) ∧
    (let s := ord (ask 1 4 1) { up with run := .standby }
     EngineTurn .ask 0 .ordinary (ask 1 4 1) s ∧ s.run = .standby ∧ Cls.ofByte (ask 1 4 1).cls = none) ∧
    (let s := ord (ask 1 3 1) (setTag ⟨0, 1⟩ true up)
     EngineTurn .ask 0 .ordinary (ask 1 3 1) s ∧ s.run = .active ∧ (s.link 0).tags.get (tagIndex (ask 1 3 1).tag) = true) ∧
    (let s := ord (ask 1 4 1) up
     EngineTurn .ask 0 .ordinary (ask 1 4 1) s ∧ s.run = .active ∧ (s.link 0).tags.get (tagIndex (ask 1 4 1).tag) = false ∧
       Cls.ofByte (ask 1 4 1).cls = none) ∧
    (let f := two 2 1 0 [32, 1]
     let s := pri f up
     EngineTurn .ask 0 .priority f s ∧ s.run = .active ∧ (s.link 0).tags.get (tagIndex f.tag) = false ∧
       Cls.ofByte f.cls = some .emergency ∧ 32 ≤ f.beam.toNat) ∧
    (let f := two 2 1 0 [31, 1]
     let s := pri f { up with policy := { up.policy with beams := vput up.policy.beams 31 none } }
     EngineTurn .ask 0 .priority f s ∧ s.run = .active ∧ (s.link 0).tags.get (tagIndex f.tag) = false ∧
       Cls.ofByte f.cls = some .emergency ∧ ∃ b : Fin 32, b.val = f.beam.toNat ∧ s.policy.beams.get b = none) := by
  refine ⟨?_, ?_, ?_, ?_, ?_, ?_⟩ <;> decide +kernel

/-- The sector with this capacity, its positions above it RETIRED. -/
def capacity (n : Nat) (s : State) : State :=
  s.modSector 3 (fun p => { p with
    effective := { p.effective with capacity := n }
    positions := Vector.ofFn (fun u : UnitNo => if u.val < n then .free else .retired) })

/-- A closed sector; a capacity one below the units; a BULK that fails its tests and may not wait; a STANDARD and an EMERGENCY that find the
list full and nothing to displace. -/
theorem meets_AskRefusedCounted :
    (let s := ord (ask 1 3 1) (capacity 0 up)
     AskReaches 0 .ordinary (ask 1 3 1) .bulk 3 s ∧ (s.sector 3).effective.capacity = 0) ∧
    (let s := ord (ask 1 3 2) (capacity 1 up)
     AskReaches 0 .ordinary (ask 1 3 2) .bulk 3 s ∧ 0 < (s.sector 3).effective.capacity ∧
       (s.sector 3).effective.capacity < (ask 1 3 2).units) ∧
    (let s := ord (ask 1 3 1) (full up)
     AskReaches 0 .ordinary (ask 1 3 1) .bulk 3 s ∧ (ask 1 3 1).units ≤ (s.sector 3).effective.capacity ∧
       (roomFor 0 .bulk 3 (ask 1 3 1).units s && orderFor .bulk 3 s) = false ∧
       waitsFor 0 .bulk 3 (ask 1 3 1).units s = false) ∧
    (let s := ord (ask 1 2 1) { full up with waitList := List.replicate 256 (entry 1 1 .bulk) }
     AskReaches 0 .ordinary (ask 1 2 1) .standard 3 s ∧ (ask 1 2 1).units ≤ (s.sector 3).effective.capacity ∧
       (roomFor 0 .standard 3 (ask 1 2 1).units s && orderFor .standard 3 s) = false ∧
       waitsFor 0 .standard 3 (ask 1 2 1).units s = true ∧ s.waitList.length = 256 ∧ Cls.counted .standard = true) ∧
    (let s := pri (ask 1 0 1) { full up with waitList := List.replicate 256 (entry 1 1 .emergency) }
     AskReaches 0 .priority (ask 1 0 1) .emergency 3 s ∧ (ask 1 0 1).units ≤ (s.sector 3).effective.capacity ∧
       (roomFor 0 .emergency 3 (ask 1 0 1).units s && orderFor .emergency 3 s) = false ∧
       waitsFor 0 .emergency 3 (ask 1 0 1).units s = true ∧ s.waitList.length = 256 ∧
       ∀ e ∈ s.waitList, e.state = .queued → e.cls.index ≤ Cls.emergency.index) := by
  refine ⟨?_, ?_, ?_, ?_, ?_⟩ <;> decide +kernel

/-- A STANDARD ASK for all the units its class may use (8 less RE and RR), a RESPONDER for 6, an EMERGENCY for 8. -/
theorem meets_AskGranted :
    (let s := ord (ask 1 2 5) up
     AskOpen 0 .ordinary (ask 1 2 5) .standard 3 s ∧ roomFor 0 .standard 3 (ask 1 2 5).units s = true ∧
       orderFor .standard 3 s = true ∧ LowestFree 0 s) ∧
    (let s := pri (ask 1 1 6) up
     AskOpen 0 .priority (ask 1 1 6) .responder 3 s ∧ roomFor 0 .responder 3 (ask 1 1 6).units s = true ∧
       orderFor .responder 3 s = true ∧ LowestFree 0 s) ∧
    (let s := pri (ask 1 0 8) (hold { call .bulk (.active none) with units := [] } up)
     AskOpen 0 .priority (ask 1 0 8) .emergency 3 s ∧ roomFor 0 .emergency 3 (ask 1 0 8).units s = true ∧
       orderFor .emergency 3 s = true ∧ LowestFree 1 s) := by
  refine ⟨?_, ?_, ?_⟩ <;> decide +kernel

theorem meets_GrantKeepsReserves :
    let s := ord (ask 1 2 5) up
    AskOpen 0 .ordinary (ask 1 2 5) .standard 3 s ∧ roomFor 0 .standard 3 (ask 1 2 5).units s = true ∧
      orderFor .standard 3 s = true ∧ LowestFree 0 s ∧ Cls.counted .standard = true ∧ exec .ask s = .next (after .ask s) :=
  ⟨by decide +kernel, by decide +kernel, by decide +kernel, by decide +kernel, by decide, rfl⟩

/-- A STANDARD with 255 entries before it; an EMERGENCY with no candidate, and one for 3 units with candidates of 2; a RESPONDER that finds
16 claims. -/
theorem meets_AskQueued :
    (let f := ask 9 2 1
     let s := ord f { full up with waitList := List.replicate 255 (entry 1 1 .bulk) }
     AskWaits 0 .ordinary f .standard 3 s ∧ s.waitList.length < 256 ∧ (∀ e ∈ s.waitList, e.name ≠ ⟨0, f.tag⟩) ∧
       NoClaimMade (s.entryFor 0 f .standard 3 .queued) s) ∧
    (let f := ask 9 0 1
     let s := pri f (full up)
     AskWaits 0 .priority f .emergency 3 s ∧ s.waitList.length < 256 ∧ (∀ e ∈ s.waitList, e.name ≠ ⟨0, f.tag⟩) ∧
       NoClaimMade (s.entryFor 0 f .emergency 3 .queued) s) ∧
    (let f := ask 9 0 3
     let s := pri f ((full up).setSession 0 (call .bulk (.active none)))
     AskWaits 0 .priority f .emergency 3 s ∧ s.waitList.length < 256 ∧ (∀ e ∈ s.waitList, e.name ≠ ⟨0, f.tag⟩) ∧
       NoClaimMade (s.entryFor 0 f .emergency 3 .queued) s ∧ candidateUnits (s.entryFor 0 f .emergency 3 .queued) s = 2) ∧
    (let f := ask 9 1 1
     let s := pri f (claims16 (full up))
     AskWaits 0 .priority f .responder 3 s ∧ s.waitList.length < 256 ∧ (∀ e ∈ s.waitList, e.name ≠ ⟨0, f.tag⟩) ∧
       Cls.counted .responder = false ∧ roomFor 0 .responder 3 f.units s = false ∧ s.claims.length = 16) := by
  refine ⟨⟨by decide +kernel, by decide +kernel, by decide +kernel, .inl rfl⟩,
    ⟨by decide +kernel, by decide +kernel, by decide +kernel, .inr (.inr ⟨by decide, ?_⟩)⟩,
    ⟨by decide +kernel, by decide +kernel, by decide +kernel, .inr (.inr ⟨by decide, ?_⟩), ?_⟩, by decide +kernel⟩
  · unfold TooFewVictims; rw [candidateUnits_none rfl]; decide +kernel
  · unfold TooFewVictims; rw [candidateUnits_one (j := 0) rfl]; decide +kernel
  · rw [candidateUnits_one (j := 0) rfl]; rfl

/-- A full list of EMERGENCY entries but for one of the class below. -/
def listWith (d : WaitEntry) : State :=
  let others := fun n => List.replicate n (entry 1 1 .emergency)
  { full up with waitList := others 100 ++ d :: others 155 }

/-- The entry displaced is another tenant's, and the ASK's own tenant's. -/
theorem meets_AskDisplaces :
    (∀ d ∈ [entry 2 7 .responder, entry 0 7 .bulk],
      let f := ask 9 0 1
      let s := pri f (listWith d)
      let others := fun n => List.replicate n (entry 1 1 .emergency)
      AskWaits 0 .priority f .emergency 3 s ∧ Cls.counted .emergency = false ∧ s.waitList.length = 256 ∧
      StandsIn (others 100) d (others 155) s ∧ d.state = .queued ∧ Cls.emergency.index < d.cls.index ∧
      (∀ e ∈ others 100 ++ others 155, e.state = .queued → e.cls.index ≤ d.cls.index) ∧
      (∀ e ∈ others 155, e.state = .queued → e.cls ≠ d.cls) ∧ (∀ e ∈ s.waitList, e.name ≠ ⟨0, f.tag⟩) ∧
      Roomy d.tenant 1 s) ∧
    ∀ d, let s := pri (ask 9 0 1) (listWith d)
      NoClaimMade (s.entryFor 0 (ask 9 0 1) .emergency 3 .queued) s := by
  refine ⟨by decide +kernel, fun d => .inr (.inr ⟨Nat.zero_lt_succ 15, ?_⟩)⟩
  have h : 0 < 1 - ((full up).sector 3).usable .emergency := by decide +kernel
  unfold TooFewVictims
  rw [candidateUnits_none rfl]
  exact h

/-- An attempt that takes its one candidate, and one short of nothing that leaves it. -/
theorem meets_VictimsChosen :
    let y := call .bulk (.active none)
    let e := { entry 1 1 .emergency with units := 2 }
    chooseVictims e ((full up).setSession 0 y) = [(0, y)] ∧ candidate e y = true ∧ chooseVictims e (up.setSession 0 y) = [] ∧
      (up.setSession 0 y).session? 0 = some y := by
  refine ⟨?_, by decide, ?_, (session?_one (j := 0) rfl 0).trans (if_pos rfl)⟩
  · unfold chooseVictims; rw [candidates_one (j := 0) rfl]; decide +kernel
  · unfold chooseVictims; rw [candidates_one (j := 0) rfl]; decide +kernel

/-- An EMERGENCY ASK for 2 units of a full sector, with a BULK session of 2 units of tenant 0 itself and of tenant 2. -/
theorem meets_AskMakesClaim :
    ∀ t ∈ [(0 : Tenant), 2],
      let f := ask 9 0 2
      let y := { call .bulk (.active none) with tenant := t }
      let s := pri f ((full up).setSession 5 y)
      (AskWaits 0 .priority f .emergency 3 s ∧ s.waitList.length < 256 ∧ Cls.counted .emergency = false ∧
        roomFor 0 .emergency 3 f.units s = false ∧ s.claims.length < 16 ∧ (∀ e ∈ s.waitList, e.name ≠ ⟨0, f.tag⟩) ∧
        (∀ k ∈ s.claims, k.claimant ≠ ⟨0, f.tag⟩)) ∧
      chooseVictims (s.entryFor 0 f .emergency 3 .queued) s = [(5, y)] ∧
      f.units - (s.sector 3).usable .emergency ≤ unitsOf [(5, y)] ∧ ∀ v ∈ [((5 : RecordIndex), y)], Roomy v.2.tenant 9 s := by
  have h : ∀ (t : Tenant), let f := ask 9 0 2
      let y := { call .bulk (.active none) with tenant := t }
      let s := pri f ((full up).setSession 5 y)
      chooseVictims (s.entryFor 0 f .emergency 3 .queued) s = [(5, y)] := by
    intro t; unfold chooseVictims; simp only; rw [candidates_one (j := 5) rfl]; revert t; decide +kernel
  simp only [List.forall_mem_cons, List.not_mem_nil, false_implies, implies_true, and_true]
  refine ⟨⟨by decide +kernel, h 0, by decide +kernel, by decide +kernel⟩, ⟨by decide +kernel, h 2, by decide +kernel,
    by decide +kernel⟩⟩

/-- TAKEN on a session in each state. -/
theorem meets_TakenActivates :
    ∀ x ∈ [SessionState.offered 9000, .active none, .reclaiming 9000 none],
      let s := ord (naming 3 0) (hold (call .bulk x) up)
      EngineTurn .taken 0 .ordinary (naming 3 0) s ∧ Names 0 (naming 3 0) 0 (call .bulk x) s := by decide +kernel

/-- MISSED on an offer missed once less than its allowance, and on the other states. -/
theorem meets_MissedRestartsOffer :
    ∀ x ∈ [SessionState.offered 9000, .active none, .reclaiming 9000 none],
      let y := { call .bulk x with missedCount := 1 }
      let s := ord (naming 4 0) (hold y up)
      EngineTurn .missed 0 .ordinary (naming 4 0) s ∧ Names 0 (naming 4 0) 0 y s ∧ y.missedCount < y.retryAllowance := by
  decide +kernel

/-- A generation that does not match, on a record not in use and on one in use, and YIELDED on an ACTIVE session. -/
theorem meets_HandleRefused :
    (let s := ord (naming 3 1) up
     EngineTurn .taken 0 .ordinary (naming 3 1) s ∧ ∀ i, ¬ Matches 0 (naming 3 1) i s) ∧
    (let s := pri (naming 5 1) (hold (call .bulk (.active none)) up)
     EngineTurn .endSession 0 .priority (naming 5 1) s ∧ ∀ i, ¬ Matches 0 (naming 5 1) i s) ∧
    (let s := pri (naming 6 0) (hold (call .bulk (.active none)) up)
     EngineTurn .yielded 0 .priority (naming 6 0) s ∧ Names 0 (naming 6 0) 0 (call .bulk (.active none)) s ∧
       (call .bulk (.active none)).isReclaiming = false) := by
  refine ⟨?_, ?_, ?_⟩ <;> decide +kernel

/-- END of an ACTIVE session, YIELDED on one whose claim has ended, and MISSED with the missed count at the allowance. -/
theorem meets_TenantEndsSession :
    (let y := call .standard (.active none)
     let s := pri (naming 5 0) (hold y up)
     Names 0 (naming 5 0) 0 y s ∧ y.unclaimed = true ∧ NoneWaiting y.sector s ∧ EngineTurn .endSession 0 .priority (naming 5 0) s) ∧
    (let y := call .standard (.reclaiming 9000 none)
     let s := pri (naming 6 0) (hold y up)
     Names 0 (naming 6 0) 0 y s ∧ y.unclaimed = true ∧ NoneWaiting y.sector s ∧ EngineTurn .yielded 0 .priority (naming 6 0) s ∧
       y.isReclaiming = true) ∧
    (let y := { call .standard (.offered 9000) with missedCount := 2 }
     let s := ord (naming 4 0) (hold y up)
     Names 0 (naming 4 0) 0 y s ∧ y.unclaimed = true ∧ NoneWaiting y.sector s ∧ EngineTurn .missed 0 .ordinary (naming 4 0) s ∧
       y.retryAllowance ≤ y.missedCount) := by
  refine ⟨?_, ?_, ?_⟩ <;> decide +kernel

/-- A scan of an EMERGENCY entry and an older BULK one. -/
theorem meets_ServiceScansInOrder :
    scanOrder 3 (waiting [entry 1 7 .bulk, entry 0 8 .emergency] up) = [entry 0 8 .emergency, entry 1 7 .bulk] := by decide +kernel

theorem freed_none {s : State} {i : RecordIndex} {y : Session} (h : holdsOne s i y) (m : RecordIndex) : (s.freed i y).session? m = none := by
  have r : (s.freed i y).record m = if m = i then ⟨(s.record m).generation + 1, none⟩ else s.record m := State.modRecord_record s i m _
  unfold State.session?
  rw [r]
  by_cases e : m = i
  · rw [if_pos e]
  · rw [if_neg e]
    exact (session?_one h m).trans (if_neg e)

/-- The first records are the lowest where none is in use. -/
theorem lowest_none {s : State} (h : ∀ m, s.session? m = none) : LowestRecords [0] s ∧ LowestRecords [0, 1] s := by
  refine ⟨⟨by simp, fun j _ => h j, fun m _ n j k => ?_⟩, ⟨by decide, fun j _ => h j, fun m _ n j k => ?_⟩⟩
  · cases List.mem_singleton.mp k
    exact Nat.pos_of_ne_zero fun e => n (List.mem_singleton.mpr (Fin.ext e))
  · have a : m.val ≠ 0 := fun e => n (List.mem_cons.mpr (.inl (Fin.ext e)))
    have b : m.val ≠ 1 := fun e => n (List.mem_cons.mpr (.inr (List.mem_singleton.mpr (Fin.ext e))))
    rcases List.mem_cons.mp k with rfl | k
    · show 0 < m.val; omega
    · cases List.mem_singleton.mp k
      show 1 < m.val; omega

/-- The second record is the lowest where the first alone is in use. -/
theorem lowest_one {s : State} {y : Session} (h : holdsOne s 0 y) : LowestRecords [1] s := by
  refine ⟨by simp, fun j m => ?_, fun m f n j k => ?_⟩
  · cases List.mem_singleton.mp m
    exact (session?_one h 1).trans (if_neg (by decide))
  · cases List.mem_singleton.mp k
    have a : m.val ≠ 0 := fun e => by
      rw [session?_one h, if_pos (Fin.ext e)] at f
      cases f
    have b : m.val ≠ 1 := fun e => n (List.mem_singleton.mpr (Fin.ext e))
    show 1 < m.val; omega

/-- Four entries of sector 3 in the order they joined. -/
def four : List WaitEntry := [entry 1 1 .bulk, entry 2 2 .standard, entry 3 3 .emergency, entry 0 4 .bulk]

/-- Tenant 0's session on units 0 and 1 of a sector with units 2 to 4 taken, where tenant 2 holds 64 units, and the entries. -/
def several : State :=
  pri (naming 5 0) (waiting four ((hold (call .standard (.active none)) up).modSector 3 (fun p =>
    { p.assign [2, 3, 4] (.held ⟨7, 7⟩) with holdings := vput p.holdings 2 64 })))

theorem several_one : holdsOne several 0 (call .standard (.active none)) := by
  have h := (waiting_keeps four ((hold (call .standard (.active none)) up).modSector 3 (fun p =>
    { p.assign [2, 3, 4] (.held ⟨7, 7⟩) with holdings := vput p.holdings 2 64 }))).1
  exact h.trans rfl

theorem several_books : BooksInv several :=
  books_of (es := four) (cs := []) rfl rfl rfl
    (by unfold several; exact linksOf_mod (fun _ => ⟨rfl, rfl⟩) (linksOf_waiting (by simp [hold, State.setSession]))) (by decide)
    (all_one several_one (fun n m => by cases m))

/-- END leaves 5 units FREE: the EMERGENCY entry is granted, the STANDARD one is over its cap and passed over, the older BULK one is granted on
the one unit its class may use then, and the younger one stops the scan. -/
theorem meets_ServiceScansInOrder_several :
    let y := call .standard (.active none)
    let u := several.freed 0 y
    let p := u.sector y.sector
    let granted := grantedInTurn p (fun t => (several.tenantPolicy t).cap) p.freeCount p.holdings.get (waitingFor y.sector several)
    (EngineTurn .endSession 0 .priority (naming 5 0) several ∧ Names 0 (naming 5 0) 0 y several ∧ y.unclaimed = true) ∧
      BooksInv several ∧ (∀ c ∈ several.claims, c.sector ≠ y.sector) ∧
      (∃ v ∈ y.units, v.val < (several.sector y.sector).effective.capacity) ∧
      waitingFor y.sector several = [entry 3 3 .emergency, entry 2 2 .standard, entry 1 1 .bulk, entry 0 4 .bulk] ∧
      granted = [entry 3 3 .emergency, entry 1 1 .bulk] ∧ LowestRecords [0, 1] u ∧ [(0 : RecordIndex), 1].length = granted.length ∧
      ∀ e ∈ granted, Roomy e.tenant (granted.length + 1) several :=
  ⟨by decide +kernel, several_books, by decide +kernel, by decide +kernel, by decide +kernel, by decide +kernel,
    (lowest_none (freed_none several_one)).2, by decide +kernel, by decide +kernel⟩

/-- Tenant 0's session `c` on units 0 and 1 of a sector with units `held` taken, and the entry waiting between entries of other sectors. -/
def served (c : Cls) (held : List UnitNo) (e : WaitEntry) : State :=
  pri (naming 5 0) (waiting [{ entry 1 1 .bulk with sector := 4 }, e, { entry 2 1 .bulk with sector := 5 }]
    ((hold (call c (.active none)) up).modSector 3 (fun p => p.assign held (.held ⟨7, 7⟩))))

/-- With units 2 to 7 held, END leaves 2 FREE: a STANDARD entry of another tenant does not pass its room test, an EMERGENCY one for 2 units does;
and with 2 and 3 held, a STANDARD entry of the tenant itself. -/
theorem meets_FreedUnitsServeWaiting :
    ∀ q ∈ [((entry 1 7 .standard), ([2, 3, 4, 5, 6, 7] : List UnitNo), false),
        ({ entry 2 7 .emergency with units := 2 }, [2, 3, 4, 5, 6, 7], true), (entry 0 7 .standard, [2, 3], true)],
      let e := q.1
      let y := call .standard (.active none)
      let before := [{ entry 1 1 .bulk with sector := 4 }]
      let rest := [{ entry 2 1 .bulk with sector := 5 }]
      let s := served .standard q.2.1 e
      (EngineTurn .endSession 0 .priority (naming 5 0) s ∧ Names 0 (naming 5 0) 0 y s ∧ y.unclaimed = true ∧
        StandsIn before e rest s ∧ e.state = .queued ∧ e.sector = y.sector ∧
        (∀ d ∈ before ++ rest, d.sector = y.sector → d.state ≠ .queued) ∧ (∀ c ∈ s.claims, c.sector ≠ y.sector)) ∧
      (∀ m : RecordIndex, m < 0 → m ≠ 0 ∧ s.session? m ≠ none) ∧
      Roomy e.tenant 2 s ∧ roomFor e.tenant e.cls e.sector e.units (s.freed 0 y) = q.2.2 ∧
        ∃ v ∈ y.units, v.val < (s.sector y.sector).effective.capacity := by
  simp only [List.forall_mem_cons, List.not_mem_nil, false_implies, implies_true, and_true]
  refine ⟨⟨by decide +kernel, fun m h => absurd h (Fin.not_lt_zero m), by decide +kernel⟩,
    ⟨by decide +kernel, fun m h => absurd h (Fin.not_lt_zero m), by decide +kernel⟩,
    ⟨by decide +kernel, fun m h => absurd h (Fin.not_lt_zero m), by decide +kernel⟩⟩

/-- Tenant 2's session in record 1, a victim of the claim `k`. -/
def victimTwo (k : RequestName) : Session := ⟨2, .bulk, 3, [6], .reclaiming 9000 (some k), 1000, 0, 0⟩

/-- Tenant 0's session on units 0 and 1 of sector 3, tenant 2's victim on unit 6, and a claim of tenant `t` with unit 5 earmarked. -/
def feeding (t : Tenant) (c : Cls) (need : Nat) : State :=
  { pri (naming 5 0) (waiting [{ entry t 7 c with units := need, state := .claiming }]
      ((hold (call .standard (.active none)) (up.setSession 1 (victimTwo ⟨t, 7⟩))).modSector 3 (fun p =>
          ((p.assign [5] (.earmarked ⟨t, 7⟩)).assign [6] (.held ⟨1, 0⟩)).assign [2, 3, 4, 7] (.held ⟨7, 7⟩)))) with
    claims := [⟨⟨t, 7⟩, c, 3, need, [5], [⟨1, 0⟩]⟩] }

theorem feeding_two (t : Tenant) (c : Cls) (need : Nat) :
    holdsTwo (feeding t c need) 0 (call .standard (.active none)) (victimTwo ⟨t, 7⟩) := rfl

theorem feeding_books (t : Tenant) (n : Nat) : BooksInv (feeding t .emergency n) := by
  refine books_of (es := [{ entry t 7 .emergency with units := n, state := .claiming }])
    (cs := [⟨⟨t, 7⟩, .emergency, 3, n, [5], [⟨1, 0⟩]⟩]) rfl rfl rfl ?_ (by simp [WaitEntry.name, entry, Cls.counted])
    (all_two (feeding_two t .emergency n) (fun n m => by cases m) (fun m h => by
      cases h
      exact ⟨_, List.mem_singleton_self _, rfl, rfl, by rw [record_two (feeding_two _ _ _)]; exact List.mem_singleton_self _⟩))
  exact linksOf_congr (s := pri (naming 5 0) (waiting [{ entry t 7 .emergency with units := n, state := .claiming }]
      ((hold (call .standard (.active none)) (up.setSession 1 (victimTwo ⟨t, 7⟩))).modSector 3 (fun p =>
        ((p.assign [5] (.earmarked ⟨t, 7⟩)).assign [6] (.held ⟨1, 0⟩)).assign [2, 3, 4, 7] (.held ⟨7, 7⟩))))) (by simp [feeding])
    (linksOf_mod (fun _ => ⟨rfl, rfl⟩) (linksOf_waiting (by simp [hold, State.setSession])))

/-- END leaves 2 units FREE: one short of an EMERGENCY claim that needs 3 more, none for a RESPONDER claim by RE 2, and all that an EMERGENCY
claim of another tenant and of the tenant itself needs. -/
theorem meets_FreedUnitsServeWaiting_claim :
    (∀ q ∈ [((1 : Tenant), Cls.emergency, 4, true), (1, .responder, 3, true), (1, .emergency, 3, false), (0, .emergency, 2, false)],
      let y := call .standard (.active none)
      let k : Claim := ⟨⟨q.1, 7⟩, q.2.1, 3, q.2.2.1, [5], [⟨1, 0⟩]⟩
      let s := feeding q.1 q.2.1 q.2.2.1
      let p := (s.freed 0 y).sector y.sector
      let allowed := match k.cls with
        | .emergency => p.freeCount
        | _ => p.freeCount - p.effective.emergencyReserve
      (EngineTurn .endSession 0 .priority (naming 5 0) s ∧ Names 0 (naming 5 0) 0 y s ∧ y.unclaimed = true ∧
        s.claims = [] ++ k :: [] ∧ k.sector = y.sector ∧ k.cls.counted = false ∧ k.earmarked.length < k.need) ∧
      (∀ e ∈ s.waitList, e.sector = y.sector → e.state ≠ .queued) ∧
      (∃ v ∈ y.units, v.val < (s.sector y.sector).effective.capacity) ∧
      decide (allowed < k.need - k.earmarked.length) = q.2.2.2 ∧ (∀ e ∈ s.waitList, e.claimPending = false) ∧
      Roomy k.claimant.tenant 2 s) ∧
    (∀ m : RecordIndex, ¬ m < 0) ∧ ∀ t n, BooksInv (feeding t .emergency n) := by
  refine ⟨?_, fun m => Fin.not_lt_zero m, feeding_books⟩
  simp only [List.forall_mem_cons, List.not_mem_nil, false_implies, implies_true, and_true]
  refine ⟨by decide +kernel, by decide +kernel, by decide +kernel, by decide +kernel⟩

/-- A need of 4 is one more than the earmark and the victim's units. -/
theorem meets_VictimFeedsClaim :
    let y := call .bulk (.reclaiming 9000 (some ⟨1, 7⟩))
    let k := claimOn 1 4
    let s := pri (naming 6 0) (claimed 1 4)
    (Instr.yielded, FrameKind.yielded) ∈ [(Instr.yielded, FrameKind.yielded), (.endSession, .endSession)] ∧
      EngineTurn .yielded 0 .priority (naming 6 0) s ∧ Names 0 (naming 6 0) 0 y s ∧
      y.state = .reclaiming 9000 (some k.claimant) ∧ s.claims = [] ++ k :: [] ∧
      (∀ j ∈ ([] : List Claim) ++ [], j.claimant ≠ k.claimant) ∧ k.earmarked.length + y.units.length < k.need := by decide +kernel

/-- Needs of 3, which takes all the victim's units, and of 2, which leaves one over; the claimant is another tenant, and the victim's own. -/
theorem meets_LastVictimCompletesClaim :
    ∀ p ∈ [((1 : Tenant), 3), (1, 2), (0, 2)],
      let y := victim p.1
      let k := claimOn p.1 p.2
      let s := pri (naming 5 0) (claimed p.1 p.2)
      (EngineTurn .endSession 0 .priority (naming 5 0) s ∧ Names 0 (naming 5 0) 0 y s ∧
        y.state = .reclaiming 9000 (some k.claimant) ∧ k ∈ s.claims ∧ k.sector = y.sector ∧ k.cls.counted = false) ∧
      (∀ m ∈ s.claims, m = k ∨ (m.claimant ≠ k.claimant ∧ m.sector ≠ y.sector)) ∧
      (∀ m, ∀ z ∈ s.session? m, m ≠ 0 → z.claim? ≠ some k.claimant) ∧
      ((∀ e ∈ s.waitList, (e.sector = y.sector → e.state ≠ .queued) ∧ e.claimPending = false) ∧
        (∀ u ∈ k.earmarked, u ∉ y.units) ∧ k.earmarked.length < k.need ∧ k.need ≤ k.earmarked.length + y.units.length) ∧
      (∀ m : RecordIndex, m < 0 → m ≠ 0 ∧ s.session? m ≠ none) ∧ Roomy k.claimant.tenant 2 s := by
  simp only [List.forall_mem_cons, List.not_mem_nil, false_implies, implies_true, and_true]
  refine ⟨⟨by decide +kernel, by decide, all_one rfl (fun h => absurd rfl h), by decide +kernel, ?_, by decide +kernel⟩,
    ⟨by decide +kernel, by decide, all_one rfl (fun h => absurd rfl h), by decide +kernel, ?_, by decide +kernel⟩,
    ⟨by decide +kernel, by decide, all_one rfl (fun h => absurd rfl h), by decide +kernel, ?_, by decide +kernel⟩⟩ <;>
    exact fun m h => absurd h (Fin.not_lt_zero m)

/-- A QUEUED entry with the DROP's tag, and none. -/
theorem meets_DropWithdraws :
    (let f := one 7 7 0 0
     let e := entry 0 7 .standard
     let s := ord f (waiting [entry 1 7 .bulk, e] up)
     EngineTurn .drop 0 .ordinary f s ∧ StandsIn [entry 1 7 .bulk] e [] s ∧ e.name = ⟨0, f.tag⟩ ∧ e.state = .queued) ∧
    (let f := one 7 7 0 0
     let s := ord f (waiting [entry 1 7 .bulk] up)
     EngineTurn .drop 0 .ordinary f s ∧ ∀ e ∈ s.waitList, e.name ≠ ⟨0, f.tag⟩) := by decide +kernel

theorem meets_DropEndsClaim :
    let f := one 7 7 0 0
    let e := claimant 0 4
    let k := claimOn 0 4
    let s := ord f (claimed 0 4)
    (EngineTurn .drop 0 .ordinary f s ∧ StandsIn [] e [] s ∧ e.name = ⟨0, f.tag⟩ ∧ e.state = .claiming ∧
      s.claims = [] ++ k :: [] ∧ k.claimant = e.name) ∧
    (∀ m ∈ ([] : List Claim) ++ [], m.claimant ≠ e.name ∧ m.sector ≠ k.sector) ∧
    (∀ i, ∀ y ∈ s.session? i, y.claim? = some e.name → ∃ h ∈ k.victims, h.index = i) ∧
    (∀ d ∈ ([] : List WaitEntry) ++ [], (d.sector = k.sector → d.state ≠ .queued) ∧ d.claimPending = false) :=
  ⟨by decide +kernel, by decide, all_one rfl (fun _ => ⟨⟨0, 0⟩, List.mem_singleton_self _, rfl⟩), by decide⟩

/-- Tenant 2's session on units 0 and 1 of sector 4. -/
def other : Session := ⟨2, .bulk, 4, [0, 1], .active none, 1000, 0, 0⟩

/-- An EMERGENCY entry for one unit of sector 5, which has room for it, marked. -/
def fits : WaitEntry := { entry 1 3 .emergency with sector := 5, claimPending := true }

/-- An EMERGENCY entry for 2 units of sector 4, which has none left, marked. -/
def short : WaitEntry := { entry 1 4 .emergency with sector := 4, units := 2, claimPending := true }

/-- A RESPONDER entry of sector 4, marked. -/
def behind : WaitEntry := { entry 3 5 .responder with sector := 4, claimPending := true }

/-- The claim of `claimed`, with tenant 2's session as well, and these entries behind the claimant. -/
def slotted (t : Tenant) (n : Nat) (ms : List WaitEntry) (c : Cls := .emergency) : State :=
  { ((waiting (claimant t n c :: ms) (hold (victim t) (up.setSession 1 other))).modSector 3
      (fun p => p.assign [5] (.earmarked ⟨t, 7⟩))).modSector 4 (fun p => p.assign (List.finRange 64) (.held ⟨1, 0⟩)) with
    claims := [claimOn t n c] }

/-- The entries without their marks. -/
abbrev calm (s : State) : State := { s with waitList := s.waitList.map (fun e => { e with claimPending := false }) }

theorem holdsTwo_of {s : State} {n : Fin 16} {y z : Session} (h : s.sessions.toList =
    (vput (vput (Vector.replicate 512 ⟨0, none⟩) 1 ⟨0, some z⟩) 0 ⟨n, some y⟩ : Vector Record 512).toList) : holdsTwo s n y z :=
  Vector.toList_inj.mp h

theorem slotted_keeps (t : Tenant) (n : Nat) (ms : List WaitEntry) (c : Cls) :
    (slotted t n ms c).links = (waiting (claimant t n c :: ms) (hold (victim t) (up.setSession 1 other))).links ∧
      (slotted t n ms c).policy = up.policy ∧ (slotted t n ms c).waitList = claimant t n c :: ms := by
  unfold slotted
  obtain ⟨a, b, d, _⟩ := withClaims_keeps (((waiting (claimant t n c :: ms) (hold (victim t) (up.setSession 1 other))).modSector 3
      (fun p => p.assign [5] (.earmarked ⟨t, 7⟩))).modSector 4 (fun p => p.assign (List.finRange 64) (.held ⟨1, 0⟩))) [claimOn t n c]
  rw [a, b, d]
  simp only [State.modSector_links, State.modSector_policy, State.modSector_waitList, waiting_keeps, hold, State.setSession,
    State.modRecord_policy]
  exact ⟨trivial, trivial, rfl⟩

/-- The time is no book. -/
theorem books_at {s : State} (time : Nat) (h : BooksInv s) : BooksInv { s with timeBase := time } := h

/-- A state that differs from this one in a lane alone has books that agree. -/
theorem slotted_books {t : Tenant} {n : Nat} {ms : List WaitEntry} {s : State} (l : Link) (f : LinkRec → LinkRec)
    (c : Cls) (hf : ∀ r, (f r).tags = r.tags ∧ (f r).state = r.state)
    (hs : s = (slotted t n ms c).modLink l f) (h2 : holdsTwo s 0 (victim t) other)
    (hc : c.counted = false) (agree : ((claimant t n c :: ms).map WaitEntry.name).Nodup ∧ ∀ e ∈ ms, e.state = .queued ∧
      e.cls.counted = false ∧ (e.cls = .emergency → e.waitDeadline = none) ∧
      (e.cls ≠ .emergency → e.escalationDeadline = none)) : BooksInv s := by
  obtain ⟨links, policy, waits⟩ := slotted_keeps t n ms c
  obtain ⟨names, each⟩ := agree
  have k : linksOf (claimant t n c :: ms) (slotted t n ms c) :=
    linksOf_congr links (linksOf_waiting (by simp [hold, State.setSession]))
  refine books_of (es := claimant t n c :: ms) (cs := [claimOn t n c]) (by rw [hs, State.modLink_waitList]; exact waits)
    (by rw [hs, State.modLink_claims]; exact (withClaims_keeps _ _).2.2.2)
    (by rw [hs, State.modLink_policy]; exact policy) (by rw [hs]; exact linksOf_mod hf k) ⟨names, ?_, ?_, ?_, ?_⟩
    (all_two h2 (fun n m => ?_) (fun n m => by cases m))
  · exact List.nodup_singleton _
  · intro c m
    cases List.mem_singleton.mp m
    exact ⟨_, List.mem_cons_self, rfl, rfl, rfl, rfl, rfl⟩
  · intro e m h
    rcases List.mem_cons.mp m with rfl | m
    · exact ⟨_, List.mem_singleton_self _, rfl⟩
    · exact absurd ((each e m).1.symm.trans h) (by decide)
  · intro e m
    rcases List.mem_cons.mp m with rfl | m
    · exact ⟨fun _ => hc, fun h => absurd h (by simp [claimant, entry]), fun h => if_pos h, fun h => if_neg h⟩
    · exact ⟨fun _ => (each e m).2.1, fun _ => (each e m).1, (each e m).2.2⟩
  · cases m
    exact ⟨_, List.mem_singleton_self _, rfl, rfl, by rw [record_two h2]; exact List.mem_singleton_self _⟩

/-- What the offer of a freed slot asks of the state `t` without marks: no claim is made for the first entry, one is for the second. -/
abbrev offers (s t : State) : Prop :=
  markedEntries s = [fits] ++ short :: [behind] ∧ (∀ d ∈ [fits], NoClaimMade d t) ∧
    roomFor short.tenant short.cls short.sector short.units t = false ∧
    short.units - (t.sector short.sector).usable short.cls ≤ unitsOf (chooseVictims short t) ∧
    ∀ v ∈ chooseVictims short t, Roomy v.2.tenant 8 t

theorem offers_of {s t : State} {n : Fin 16} {y : Session} (h : holdsTwo t n y other) (no : y.sector ≠ 4)
    (room : (markedEntries s = [fits] ++ short :: [behind] ∧ roomFor fits.tenant fits.cls fits.sector fits.units t = true) ∧
      roomFor short.tenant short.cls short.sector short.units t = false ∧ shortfall short t = 2 ∧ Roomy 2 8 t) : offers s t := by
  obtain ⟨⟨a, b⟩, c, d, e⟩ := room
  have k : chooseVictims short t = [(1, other)] := by
    unfold chooseVictims; rw [candidates_two h no short rfl, d]; decide +kernel
  refine ⟨a, ?_, c, ?_, ?_⟩
  · intro x m; cases List.mem_singleton.mp m; exact .inr (.inl b)
  · rw [k]; exact (show shortfall short t ≤ _ from d ▸ (by decide))
  · intro v m; rw [k] at m; cases List.mem_singleton.mp m; exact e

/-- DROP of the claimant: with one marked entry, which has room, and with three, the second of which finds its victim. -/
theorem meets_DropEndsClaim_slot :
    ∀ ms ∈ [[fits], [fits, short, behind]],
      let f := one 7 7 0 0
      let e := claimant 0 4
      let k := claimOn 0 4
      let s := ord f (slotted 0 4 ms)
      let t := after .drop (calm s)
      ((EngineTurn .drop 0 .ordinary f s ∧ StandsIn [] e ms s ∧ e.name = ⟨0, f.tag⟩ ∧ e.state = .claiming ∧
        s.claims = [] ++ k :: [] ∧ k.claimant = e.name) ∧
      (∀ i, ∀ y ∈ s.session? i, y.claim? = some e.name → ∃ h ∈ k.victims, h.index = i) ∧
      ∀ d ∈ [] ++ ms, d.sector = k.sector → d.state ≠ .queued) ∧
      BooksInv s ∧ s.claims.length ≤ 16 ∧ exec .drop (calm s) = .next t ∧
      (ms = [fits] → ∀ e ∈ markedEntries s, NoClaimMade e t) ∧ (ms ≠ [fits] → offers s t) := by
  have two : ∀ ms ∈ [[fits], [fits, short, behind]], holdsTwo (ord (one 7 7 0 0) (slotted 0 4 ms)) 0 (victim 0) other :=
    fun ms m => holdsTwo_of (by revert ms; decide +kernel)
  have books : ∀ ms ∈ [[fits], [fits, short, behind]], BooksInv (ord (one 7 7 0 0) (slotted 0 4 ms)) := fun ms m =>
    slotted_books (t := 0) (n := 4) (ms := ms) 0 (fun r =>
      { r with ordinaryLane := [one 7 7 0 0], balance := r.balance - RxFrame.slots (one 7 7 0 0) }) .emergency (fun _ => ⟨rfl, rfl⟩) rfl (two ms m)
      rfl (by revert ms; decide +kernel)
  have after : holdsTwo (after .drop (calm (ord (one 7 7 0 0) (slotted 0 4 [fits, short, behind])))) 0 (call .bulk (.reclaiming 9000 none)) other :=
    holdsTwo_of (by decide +kernel)
  have listed : ∀ ms ∈ [[fits], [fits, short, behind]], ∀ i, ∀ y ∈ (ord (one 7 7 0 0) (slotted 0 4 ms)).session? i,
      y.claim? = some (claimant 0 4).name → ∃ h ∈ (claimOn 0 4).victims, h.index = i := fun ms m =>
    all_two (two ms m) (fun _ => ⟨⟨0, 0⟩, List.mem_singleton_self _, rfl⟩) (fun h => by cases h)
  simp only [List.forall_mem_cons, List.not_mem_nil, false_implies, implies_true, and_true]
  refine ⟨⟨⟨by decide +kernel, listed _ (by simp), by decide⟩, books _ (by simp), by decide, rfl, fun _ => ?_, fun h => absurd rfl h⟩,
    ⟨by decide +kernel, listed _ (by simp), by decide⟩, books _ (by simp), by decide, rfl, fun h => absurd h (by decide), fun _ => ?_⟩
  · intro e m
    have : markedEntries (ord (one 7 7 0 0) (slotted 0 4 [fits])) = [fits] := by decide +kernel
    cases List.mem_singleton.mp (this ▸ m)
    exact .inr (.inl (by decide +kernel))
  · exact offers_of after (by decide) (by decide +kernel)

/-- END of tenant 0's session, the last victim of tenant 1's claim, with the same entries behind the claimant. -/
theorem meets_LastVictimCompletesClaim_slot :
    ∀ ms ∈ [[fits], [fits, short, behind]],
      let y := victim 1
      let k := claimOn 1 3
      let s := pri (naming 5 0) (slotted 1 3 ms)
      let t := after .endSession (calm s)
      ((EngineTurn .endSession 0 .priority (naming 5 0) s ∧ Names 0 (naming 5 0) 0 y s ∧
        y.state = .reclaiming 9000 (some k.claimant) ∧ k ∈ s.claims ∧ k.sector = y.sector ∧ k.cls.counted = false ∧
        (∀ m ∈ s.claims, m = k ∨ (m.claimant ≠ k.claimant ∧ m.sector ≠ y.sector)) ∧
        (∀ e ∈ s.waitList, e.sector = y.sector → e.state ≠ .queued) ∧ (∀ u ∈ k.earmarked, u ∉ y.units) ∧
        k.earmarked.length < k.need ∧ k.need ≤ k.earmarked.length + y.units.length ∧ Roomy k.claimant.tenant 2 s) ∧
      ∀ m, ∀ z ∈ s.session? m, m ≠ 0 → z.claim? ≠ some k.claimant) ∧
      BooksInv s ∧ s.claims.length ≤ 16 ∧ exec .endSession (calm s) = .next t ∧
      (ms = [fits] → ∀ e ∈ markedEntries s, NoClaimMade e t) ∧ (ms ≠ [fits] → offers s t) := by
  have two : ∀ ms ∈ [[fits], [fits, short, behind]], holdsTwo (pri (naming 5 0) (slotted 1 3 ms)) 0 (victim 1) other :=
    fun ms m => holdsTwo_of (by revert ms; decide +kernel)
  have books : ∀ ms ∈ [[fits], [fits, short, behind]], BooksInv (pri (naming 5 0) (slotted 1 3 ms)) := fun ms m =>
    slotted_books (t := 1) (n := 3) (ms := ms) 0 (fun r =>
      { r with priorityLane := [naming 5 0], balance := r.balance - RxFrame.slots (naming 5 0) }) .emergency (fun _ => ⟨rfl, rfl⟩) rfl (two ms m)
      rfl (by revert ms; decide +kernel)
  have after : holdsTwo (after .endSession (calm (pri (naming 5 0) (slotted 1 3 [fits, short, behind])))) 1
      (up.granted 1 .emergency 3 [0, 1, 5]) other := holdsTwo_of (by decide +kernel)
  have alone : ∀ ms ∈ [[fits], [fits, short, behind]], ∀ i, ∀ z ∈ (pri (naming 5 0) (slotted 1 3 ms)).session? i,
      i ≠ 0 → z.claim? ≠ some (claimOn 1 3).claimant := fun ms m =>
    all_two (two ms m) (fun h => absurd rfl h) (fun _ h => by cases h)
  simp only [List.forall_mem_cons, List.not_mem_nil, false_implies, implies_true, and_true]
  refine ⟨⟨⟨by decide +kernel, alone _ (by simp)⟩, books _ (by simp), by decide, rfl, fun _ => ?_, fun h => absurd rfl h⟩,
    ⟨by decide +kernel, alone _ (by simp)⟩, books _ (by simp), by decide, rfl, fun h => absurd h (by decide), fun _ => ?_⟩
  · intro e m
    have : markedEntries (pri (naming 5 0) (slotted 1 3 [fits])) = [fits] := by decide +kernel
    cases List.mem_singleton.mp (this ▸ m)
    exact .inr (.inl (by decide +kernel))
  · exact offers_of after (by decide) (by decide +kernel)

/-- Sector fields 7 and 8. -/
theorem meets_LookAnswered :
    (let f := one 8 7 0 7
     EngineTurn .look 0 .ordinary f (ord f up) ∧ (7 : Sector).val = f.sectorField.toNat) ∧
    (let f := one 8 7 0 8
     EngineTurn .look 0 .ordinary f (ord f up) ∧ 8 ≤ f.sectorField.toNat) := by decide +kernel

/-- A LEAVE with no frame in transmission and with one. -/
theorem meets_LeaveTakesAllBack :
    let f := one 9 7 0 0
    (∀ p ∈ [([], none), ([OutFrame.credit, .credit], some (⟨0, OutFrame.credit.bytes 0⟩ : Transmission))],
      let s := ord f ((claimed 1 4).modLink 0 (fun r => { r with outbound := p.1, sending := p.2 }))
      EngineTurn .leave 0 .ordinary f s ∧ (s.link 0).sending = p.2) ∧
    ∀ (o : List OutFrame) (x : Option Transmission),
      BooksInv (ord f ((claimed 1 4).modLink 0 (fun r => { r with outbound := o, sending := x }))) := by
  exact ⟨by decide +kernel, fun o x => claimed_books rfl rfl rfl rfl
    (linksOf_mod (fun _ => ⟨rfl, rfl⟩) (linksOf_mod (fun _ => ⟨rfl, rfl⟩) (claimed_links 1 4)))⟩

/-- A deadline of exactly the Time Base; a class at its onset, and one above it. -/
theorem meets_SessionDeadlines :
    (∀ x ∈ [SessionState.offered 5000, .active (some 5000), .reclaiming 5000 none],
      let y := call .bulk x
      let s := (hold y up).modMeter 3 (fun m => { m with ratio := 193 })
      Ready s ∧ s.session? 0 = some y ∧ 5000 ≤ s.timeBase ∧ y.unclaimed = true ∧ NoneWaiting y.sector s ∧
        Roomy y.tenant 1 s ∧ (s.classPolicy y.cls).onset < (s.meter y.sector).ratio) ∧
    (let y := call .bulk (.active (some 5000))
     let s := (hold y up).modMeter 3 (fun m => { m with ratio := 192 })
     Ready s ∧ s.session? 0 = some y ∧ 5000 ≤ s.timeBase ∧ (s.meter y.sector).ratio ≤ (s.classPolicy y.cls).onset) := by
  decide +kernel

theorem modLink_id (s : State) (l : Link) : s.modLink l id = s := by
  unfold State.modLink
  rw [vmod_id _ _ (f := id) rfl]

/-- A victim at its reclaim deadline: a claim that needs one unit more than the victim gives, one that needs all, and one that needs one fewer. -/
theorem meets_SessionDeadlines_victim :
    (∀ q ∈ [(4, true), (3, false), (2, false)],
      let y := victim 1
      let k := claimOn 1 q.1
      let s : State := { claimed 1 q.1 with timeBase := 9000 }
      (Ready s ∧ s.session? 0 = some y ∧ 9000 ≤ s.timeBase ∧ y.state = .reclaiming 9000 (some k.claimant) ∧
        s.claims = [] ++ k :: [] ∧ (∀ m ∈ ([] : List Claim) ++ [], m.claimant ≠ k.claimant ∧ m.sector ≠ y.sector) ∧
        decide (k.earmarked.length + y.units.length < k.need) = q.2 ∧ Roomy y.tenant 2 s ∧ Roomy k.claimant.tenant 2 s) ∧
      (k.cls.counted = false ∧ (∀ e ∈ s.waitList, (e.sector = y.sector → e.state ≠ .queued) ∧ e.claimPending = false) ∧
        (∀ u ∈ k.earmarked, u ∉ y.units) ∧ k.earmarked.length < k.need ∧ s.claims.length ≤ 16) ∧
      LowestRecords [0] (s.freed 0 y)) ∧
    ∀ n, BooksInv { claimed 1 n with timeBase := 9000 } := by
  have low : ∀ n, LowestRecords [0] (({ claimed 1 n with timeBase := 9000 } : State).freed 0 (victim 1)) := fun n =>
    (lowest_none (freed_none (s := { claimed 1 n with timeBase := 9000 }) (show holdsOne (claimed 1 n) 0 (victim 1) from rfl))).1
  refine ⟨?_, fun n => ?_⟩
  · simp only [List.forall_mem_cons, List.not_mem_nil, false_implies, implies_true, and_true]
    exact ⟨⟨by decide +kernel, by decide +kernel, low 4⟩, ⟨by decide +kernel, by decide +kernel, low 3⟩,
      ⟨by decide +kernel, by decide +kernel, low 2⟩⟩
  · refine books_at 9000 (books_of (es := [claimant 1 n]) (cs := [claimOn 1 n]) rfl rfl rfl (claimed_links 1 n)
      (by simp [WaitEntry.name, claimant, claimOn, entry, Cls.counted])
      (all_one (show holdsOne (claimed 1 n) 0 (victim 1) from rfl) (fun n m => by
        cases m
        exact ⟨_, List.mem_singleton_self _, rfl, rfl, by rw [record_one (show holdsOne (claimed 1 _) 0 (victim 1) from rfl)]; exact List.mem_singleton_self _⟩)))

/-- RECLAIM_EXPIRY of that victim, with one marked entry, which has room, and with three, the second of which finds its victim. -/
theorem meets_SessionDeadlines_slot :
    ∀ ms ∈ [[fits], [fits, short, behind]],
      let y := victim 1
      let k := claimOn 1 3
      let s : State := { slotted 1 3 ms with timeBase := 9000 }
      let t := after (.reclaimExpiry 0) (calm s)
      (Ready s ∧ Names 0 (naming 5 0) 0 y s ∧ y.state = .reclaiming 9000 (some k.claimant) ∧ s.claims = [] ++ k :: [] ∧
        (∀ e ∈ s.waitList, e.sector = y.sector → e.state ≠ .queued) ∧ s.claims.length ≤ 16 ∧ Roomy y.tenant 2 s ∧
        Roomy k.claimant.tenant 2 s) ∧
      BooksInv s ∧ exec (.reclaimExpiry 0) (calm s) = .next t ∧
      (ms = [fits] → ∀ e ∈ markedEntries s, NoClaimMade e t) ∧ (ms ≠ [fits] → offers s t) := by
  have two : ∀ ms ∈ [[fits], [fits, short, behind]], holdsTwo (slotted 1 3 ms) 0 (victim 1) other :=
    fun ms m => holdsTwo_of (by revert ms; decide +kernel)
  have books : ∀ ms ∈ [[fits], [fits, short, behind]], BooksInv { slotted 1 3 ms with timeBase := 9000 } := fun ms m =>
    books_at 9000 (slotted_books 0 id .emergency (fun _ => ⟨rfl, rfl⟩) (modLink_id _ _).symm (two ms m) rfl
      (by revert ms; decide +kernel))
  have after : holdsTwo (after (.reclaimExpiry 0) (calm { slotted 1 3 [fits, short, behind] with timeBase := 9000 })) 1
      ({ up with timeBase := 9000 }.granted 1 .emergency 3 [0, 1, 5]) other := holdsTwo_of (by decide +kernel)
  simp only [List.forall_mem_cons, List.not_mem_nil, false_implies, implies_true, and_true]
  refine ⟨⟨by decide +kernel, books _ (by simp), rfl, fun _ => ?_, fun h => absurd rfl h⟩,
    ⟨by decide +kernel, books _ (by simp), rfl, fun h => absurd h (by decide), fun _ => ?_⟩⟩
  · intro e m
    have : markedEntries { slotted 1 3 [fits] with timeBase := 9000 } = [fits] := by decide +kernel
    cases List.mem_singleton.mp (this ▸ m)
    exact .inr (.inl (by decide +kernel))
  · exact offers_of after (by decide) (by decide +kernel)

theorem meets_EntryDeadlines_wait :
    let e := entry 2 7 .standard
    let s := waiting [entry 1 7 .bulk, e] up
    Ready s ∧ StandsIn [entry 1 7 .bulk] e [] s ∧ e.waitDeadline = some 5000 ∧ 5000 ≤ s.timeBase ∧ e.state = .queued ∧
      Roomy e.tenant 1 s := by decide +kernel

/-- An entry with room for it; one without, that finds 16 claims; one without, that finds no candidate; and one of 3 units whose candidates
hold 2. -/
theorem meets_EntryDeadlines_escalation :
    let e := entry 2 7 .emergency
    let due := fun s : State => Ready s ∧ StandsIn [] e [] s ∧ e.cls = .emergency ∧ e.escalationDeadline = some 5000 ∧
      5000 ≤ s.timeBase
    let short := fun s => e.state = .queued ∧ roomFor e.tenant e.cls e.sector e.units s = false
    (due (waiting [e] up) ∧ ¬ short (waiting [e] up)) ∧
    (due (claims16 (waiting [e] (full up))) ∧ short (claims16 (waiting [e] (full up))) ∧
      (claims16 (waiting [e] (full up))).claims.length = 16) ∧
    (due (waiting [e] (full up)) ∧ short (waiting [e] (full up)) ∧ (waiting [e] (full up)).claims.length < 16) ∧
    TooFewVictims { e with escalated := true, escalationDeadline := none } (waiting [e] (full up)) ∧
    (let e := { entry 2 7 .emergency with units := 3 }
     let s := (waiting [e] (full up)).setSession 0 (call .responder (.active none))
     Ready s ∧ StandsIn [] e [] s ∧ e.escalationDeadline = some 5000 ∧ e.state = .queued ∧
       roomFor e.tenant e.cls e.sector e.units s = false ∧ s.claims.length < 16 ∧
       TooFewVictims { e with escalated := true, escalationDeadline := none } s) := by
  refine ⟨by decide +kernel, by decide +kernel, by decide +kernel, ?_, ⟨by decide +kernel, by decide +kernel, rfl, rfl,
    by decide +kernel, by decide, ?_⟩⟩
  · unfold TooFewVictims; rw [candidateUnits_none rfl]; decide +kernel
  · unfold TooFewVictims; rw [candidateUnits_one (j := 0) rfl]; decide +kernel

/-- WAIT_EXPIRY of a RESPONDER claimant, without marked entries and with them. -/
theorem meets_EntryDeadlines_claiming :
    ∀ ms ∈ [[], [fits], [fits, short, behind]],
      let e := claimant 0 4 .responder
      let k := claimOn 0 4 .responder
      let s := slotted 0 4 ms .responder
      let t := after (.waitExpiry 0 7) (calm s)
      ((Ready s ∧ StandsIn [] e ms s ∧ e.waitDeadline = some 5000 ∧ 5000 ≤ s.timeBase ∧ e.state = .claiming ∧
        s.claims = [] ++ k :: [] ∧ k.claimant = e.name ∧ Roomy e.tenant 1 s ∧ s.claims.length ≤ 16) ∧
      (∀ i, ∀ y ∈ s.session? i, y.claim? = some e.name → ∃ h ∈ k.victims, h.index = i) ∧
      ∀ a ∈ [] ++ ms, a.sector = k.sector → a.state ≠ .queued) ∧
      BooksInv s ∧ exec (.waitExpiry 0 7) (calm s) = .next t ∧
      (ms = [fits] → ∀ e ∈ markedEntries s, NoClaimMade e t) ∧ (ms = [fits, short, behind] → offers s t) := by
  have two : ∀ ms ∈ [[], [fits], [fits, short, behind]], holdsTwo (slotted 0 4 ms .responder) 0 (victim 0) other :=
    fun ms m => holdsTwo_of (by revert ms; decide +kernel)
  have books : ∀ ms ∈ [[], [fits], [fits, short, behind]], BooksInv (slotted 0 4 ms .responder) := fun ms m =>
    slotted_books 0 id .responder (fun _ => ⟨rfl, rfl⟩) (modLink_id _ _).symm (two ms m) rfl (by revert ms; decide +kernel)
  have after : holdsTwo (after (.waitExpiry 0 7) (calm (slotted 0 4 [fits, short, behind] .responder))) 0
      (call .bulk (.reclaiming 9000 none)) other := holdsTwo_of (by decide +kernel)
  have listed : ∀ ms ∈ [[], [fits], [fits, short, behind]], ∀ i, ∀ y ∈ (slotted 0 4 ms .responder).session? i,
      y.claim? = some (claimant 0 4 .responder).name → ∃ h ∈ (claimOn 0 4 .responder).victims, h.index = i := fun ms m =>
    all_two (two ms m) (fun _ => ⟨⟨0, 0⟩, List.mem_singleton_self _, rfl⟩) (fun h => by cases h)
  simp only [List.forall_mem_cons, List.not_mem_nil, false_implies, implies_true, and_true]
  refine ⟨⟨⟨by decide +kernel, listed _ (by simp), by decide⟩, books _ (by simp), rfl, fun h => absurd h (by decide),
      fun h => absurd h (by decide)⟩,
    ⟨⟨by decide +kernel, listed _ (by simp), by decide⟩, books _ (by simp), rfl, fun _ => ?_, fun h => absurd h (by decide)⟩,
    ⟨by decide +kernel, listed _ (by simp), by decide⟩, books _ (by simp), rfl, fun h => absurd h (by decide), fun _ => ?_⟩
  · intro e m
    have : markedEntries (slotted 0 4 [fits] .responder) = [fits] := by decide +kernel
    cases List.mem_singleton.mp (this ▸ m)
    exact .inr (.inl (by decide +kernel))
  · exact offers_of after (by decide) (by decide +kernel)

/-- An EMERGENCY entry for 2 units of a full sector, whose one candidate, once it is escalated, is a RESPONDER session. -/
theorem meets_EntryDeadlines_attempt :
    let e := { entry 2 7 .emergency with units := 2 }
    let marked := { e with escalated := true, escalationDeadline := none }
    let y := call .responder (.active none)
    let s := (waiting [e] (full up)).setSession 0 y
    (Ready s ∧ StandsIn [] e [] s ∧ e.cls = .emergency ∧ e.escalationDeadline = some 5000 ∧ 5000 ≤ s.timeBase ∧
      e.state = .queued ∧ roomFor e.tenant e.cls e.sector e.units s = false ∧ s.claims.length < 16 ∧
      ∀ c ∈ s.claims, c.claimant ≠ e.name) ∧
    chooseVictims marked s = [(0, y)] ∧ chooseVictims e s = [] ∧
    e.units - (s.sector e.sector).usable .emergency ≤ unitsOf [(0, y)] ∧ Roomy y.tenant 8 s := by
  have one : holdsOne ((waiting [{ entry 2 7 .emergency with units := 2 }] (full up)).setSession 0
      (call .responder (.active none))) 0 (call .responder (.active none)) := rfl
  refine ⟨by decide +kernel, ?_, ?_, by decide +kernel, by decide +kernel⟩
  · unfold chooseVictims; rw [candidates_one one]; decide +kernel
  · unfold chooseVictims; rw [candidates_one one]; decide +kernel

/-- The link's store with no free place, its first frame in transmission. -/
def fullStore (l : Link) (s : State) : State :=
  s.modLink l (fun r => { r with outbound := List.replicate 128 .credit, sending := some ⟨0, OutFrame.credit.bytes 0⟩ })

/-- What every clause of the statement about events asks of the link. -/
abbrev fullAt (l : Link) (s : State) : Prop := Ready s ∧ (s.link l).state = .attached ∧ 128 ≤ (s.link l).outbound.length

/-- A store with no free place, one with one, and a link that is not ATTACHED. -/
theorem meets_StallTakesAllBack_frame :
    (((fullStore 0 up).link 0).state = .attached ∧ 128 ≤ ((fullStore 0 up).link 0).outbound.length) ∧
    (let s := up.modLink 0 (fun r => { r with outbound := List.replicate 127 .credit })
     (s.link 0).state = .attached ∧ (s.link 0).outbound.length < 128) ∧
    ((up.modLink 0 (fun r => { r with state := .present })).link 0).state ≠ .attached := by decide +kernel

/-- A full store changes no book. -/
theorem linksOf_full {es : List WaitEntry} {l : Link} {s : State} (h : linksOf es s) : linksOf es (fullStore l s) :=
  linksOf_mod (fun _ => ⟨rfl, rfl⟩) h

theorem up_links : linksOf [] up := linksOf_waiting rfl

/-- What a second JOIN on the link leaves of it. -/
theorem joined_full : joinReceived 0 1 0 { fullStore 0 up with work := EventWork.none } =
    stall 0 { fullStore 0 up with work := EventWork.none } := by
  have a : (({ fullStore 0 up with work := EventWork.none } : State).link 0).state = .attached := by decide +kernel
  unfold joinReceived
  rw [a]
  exact queueFrame_full a (by decide +kernel)

/-- A second JOIN on a link with a full store, whose tenant holds nothing. -/
theorem meets_StallTakesAllBack_event :
    let s := fullStore 0 up
    let t := after (.join 0 1 0) s
    BooksInv s ∧ LinkInv s ∧ exec (.join 0 1 0) s = .next t ∧ (s.link 0).state = .attached ∧ (t.link 0).state = .halted ∧
      (t.link 0).enable = true := by
  let u : State := stall 0 { fullStore 0 up with work := EventWork.none }
  let v : State := { u with work := { u.work with stalled := [] } }
  have none : holdsNone (fullStore 0 up) := rfl
  have b := releaseSequence_bare (l := 0) (b := false) (s := v) (all_none none) (by simp [v, u, show u.waitList = [] from rfl]) rfl rfl
  have d : drainStalls 4 u = releaseSequence 0 false v :=
    drainStalls_one (l := 0) (n := 3) (s := u) rfl (by rw [show _ = _ from b]; rfl)
  have e : after (.join 0 1 0) (fullStore 0 up) = finishEvent (joinReceived 0 1 0 { fullStore 0 up with work := EventWork.none }) := by
    unfold after; rfl
  have k : ((after (.join 0 1 0) (fullStore 0 up)).link 0).state = .halted ∧ ((after (.join 0 1 0) (fullStore 0 up)).link 0).enable = true := by
    rw [e, joined_full]
    unfold finishEvent
    rw [show drainStalls 4 (stall 0 { fullStore 0 up with work := EventWork.none }) = _ from d, b]
    decide +kernel
  exact ⟨books_of (es := []) (cs := []) rfl rfl rfl (linksOf_full up_links) (by decide) (all_none none), by decide +kernel, rfl,
    by decide +kernel, k⟩

/-- An offer, a hold deadline of a class that is shedding, and a reclaim deadline, each of exactly the Time Base. -/
theorem meets_StallTakesAllBack_session :
    ∀ x ∈ [SessionState.offered 5000, .active (some 5000), .reclaiming 5000 none],
      let y := call .bulk x
      let s := fullStore 0 ((hold y up).modMeter 3 (fun m => { m with ratio := 193 }))
      fullAt 0 s ∧ BooksInv s ∧ s.session? 0 = some y ∧ y.tenant = 0 ∧ 5000 ≤ s.timeBase ∧
        (s.classPolicy y.cls).onset < (s.meter y.sector).ratio := by
  have one : ∀ x : SessionState, holdsOne (fullStore 0 ((hold (call .bulk x) up).modMeter 3 (fun m => { m with ratio := 193 }))) 0
      (call .bulk x) := fun _ => rfl
  have books : ∀ x : SessionState, (call .bulk x).claim? = none →
      BooksInv (fullStore 0 ((hold (call .bulk x) up).modMeter 3 (fun m => { m with ratio := 193 }))) := fun x hx =>
    books_of (es := []) (cs := []) rfl rfl rfl (linksOf_full (linksOf_congr (s := up) (by simp [hold, State.setSession]) up_links))
      (by decide) (all_one (one x) (fun n m => by rw [hx] at m; cases m))
  have found : ∀ x : SessionState, (fullStore 0 ((hold (call .bulk x) up).modMeter 3 (fun m => { m with ratio := 193 }))).session? 0 =
      some (call .bulk x) := fun x => (session?_one (one x) 0).trans (if_pos rfl)
  simp only [List.forall_mem_cons, List.not_mem_nil, false_implies, implies_true, and_true]
  exact ⟨⟨by decide +kernel, books _ rfl, found _, by decide +kernel⟩, ⟨by decide +kernel, books _ rfl, found _, by decide +kernel⟩,
    ⟨by decide +kernel, books _ rfl, found _, by decide +kernel⟩⟩

/-- A STANDARD entry at its wait deadline, a second JOIN, a window that ends with no FRACTION in the store, and a transition to STANDBY. -/
theorem meets_StallTakesAllBack_port :
    let e := entry 0 7 .standard
    let s := fullStore 0 ((waiting [e] up).modMeter 3 (fun m => { m with state := .counting 4500 }))
    fullAt 0 s ∧ BooksInv s ∧ (e ∈ s.waitList ∧ e.tenant = 0 ∧ e.waitDeadline = some 5000 ∧ 5000 ≤ s.timeBase) ∧
      (s.link 0).lock = true ∧ ((s.meter 3).state = .counting 4500 ∧ 4500 + (s.meter 3).length * 10 ≤ s.timeBase) ∧
      ((s.link 0).outbound.drop (s.link 0).begun).any (OutFrame.isFractionOf 3) = false ∧ Addressed dev s ∧ s.run = .active :=
  ⟨by decide +kernel, books_of (es := [entry 0 7 .standard]) (cs := []) rfl rfl rfl
    (linksOf_full (linksOf_congr (s := waiting [entry 0 7 .standard] up) (by simp) (linksOf_waiting rfl))) (by decide)
    (all_none (s := fullStore 0 ((waiting [entry 0 7 .standard] up).modMeter 3 (fun m => { m with state := .counting 4500 }))) rfl),
    by decide +kernel⟩

/-- Tenant 1's 255 EMERGENCY entries. -/
def others255 : List WaitEntry := (List.range 255).map (fun n => entry 1 (BitVec.ofNat 8 n) .emergency)

/-- A full list of them and one BULK entry of tenant 0, whose store is full, with an EMERGENCY ASK of tenant 2. -/
def displacing : State :=
  fullStore 0 ((waiting (entry 0 7 .bulk :: others255) (full up)).modLink 2 (fun r =>
    { r with priorityLane := [ask 9 0 1], balance := 46 }))

theorem full_keeps (s : State) :
    (full s).sessions = s.sessions ∧ (full s).claims = s.claims ∧ (full s).policy = s.policy ∧ (full s).links = s.links :=
  ⟨rfl, rfl, rfl, rfl⟩

theorem storing_keeps (s : State) (l m : Link) (f : LinkRec → LinkRec) :
    (fullStore l (s.modLink m f)).sessions = s.sessions ∧ (fullStore l (s.modLink m f)).claims = s.claims ∧
      (fullStore l (s.modLink m f)).policy = s.policy ∧ (fullStore l (s.modLink m f)).waitList = s.waitList := ⟨rfl, rfl, rfl, rfl⟩

theorem displacing_keeps :
    displacing.sessions = up.sessions ∧ displacing.claims = up.claims ∧ displacing.policy = up.policy ∧
      displacing.waitList = entry 0 7 .bulk :: others255 := by
  unfold displacing
  obtain ⟨a, b, c, d⟩ := storing_keeps (waiting (entry 0 7 .bulk :: others255) (full up)) 0 2 (fun r =>
    { r with priorityLane := [ask 9 0 1], balance := 46 })
  obtain ⟨e, f, g⟩ := waiting_keeps (entry 0 7 .bulk :: others255) (full up)
  obtain ⟨h, i, j, _⟩ := full_keeps up
  rw [a, b, c, d, e, f, g, h, i, j]
  exact ⟨rfl, rfl, rfl, rfl⟩

theorem displacing_books : BooksInv displacing := by
  obtain ⟨a, b, c, waits⟩ := displacing_keeps
  have each : ∀ x ∈ entry 0 7 .bulk :: others255, x.state = .queued ∧ x.claimPending = false ∧
      (x.cls = .emergency → x.waitDeadline = none) ∧ (x.cls ≠ .emergency → x.escalationDeadline = none) := by
    intro x m
    rcases List.mem_cons.mp m with rfl | m
    · decide
    · obtain ⟨n, _, rfl⟩ := List.mem_map.mp m
      exact ⟨rfl, rfl, fun _ => rfl, fun h => absurd rfl h⟩
  have names : ((entry 0 7 .bulk :: others255).map WaitEntry.name).Nodup := by
    rw [others255, List.map_cons, List.map_map, List.nodup_cons]
    refine ⟨fun m => ?_, List.nodup_range.map_on fun x hx y hy h => ?_⟩
    · obtain ⟨n, _, h⟩ := List.mem_map.mp m
      exact absurd (congrArg RequestName.tenant h) (by simp [WaitEntry.name, entry])
    · have := congrArg (fun k : RequestName => k.tag.toNat) h
      simp [WaitEntry.name, entry] at this hx hy
      omega
  have links : linksOf (entry 0 7 .bulk :: others255) displacing := by
    unfold displacing
    exact linksOf_full (linksOf_mod (fun _ => ⟨rfl, rfl⟩) (linksOf_waiting (full_keeps up).2.2.2))
  exact books_of (es := entry 0 7 .bulk :: others255) (cs := []) waits b c links
    ⟨names, List.nodup_nil, by simp, fun x m h => absurd ((each x m).1.symm.trans h) (by decide), fun x m =>
      ⟨fun h => h.elim (fun h => absurd ((each x m).1.symm.trans h) (by decide))
        (fun h => absurd ((each x m).2.1.symm.trans h) (by decide)), fun _ => (each x m).1, (each x m).2.2⟩⟩
    (all_none a)

theorem meets_StallTakesAllBack_displaced :
    let d := entry 0 7 .bulk
    let f := ask 9 0 1
    fullAt 0 displacing ∧ BooksInv displacing ∧ AskWaits 2 .priority f .emergency 3 displacing ∧ displacing.waitList.length = 256 ∧
      StandsIn [] d others255 displacing ∧ (d.tenant = 0 ∧ d.state = .queued ∧ Cls.emergency.index < d.cls.index) ∧
      (∀ e ∈ others255, e.state = .queued → e.cls.index ≤ d.cls.index) ∧ ∀ e ∈ others255, e.state = .queued → e.cls ≠ d.cls :=
  ⟨by decide +kernel, displacing_books, by decide +kernel, by decide +kernel, by decide +kernel, by decide, by decide +kernel,
    by decide +kernel⟩

/-- Tenant 0's session in record 0, its store full, with an EMERGENCY ASK of tenant 1 for 2 units of the full sector. -/
def seizing : State :=
  fullStore 0 (((full up).setSession 0 (call .bulk (.active none))).modLink 1 (fun r =>
    { r with priorityLane := [ask 9 0 2], balance := 46 }))

theorem seizing_one : holdsOne seizing 0 (call .bulk (.active none)) := rfl

/-- Its one candidate is that session. -/
theorem meets_StallTakesAllBack_vacate :
    let f := ask 9 0 2
    let y := call .bulk (.active none)
    fullAt 0 seizing ∧ BooksInv seizing ∧ AskWaits 1 .priority f .emergency 3 seizing ∧ seizing.waitList.length < 256 ∧
      roomFor 1 .emergency 3 f.units seizing = false ∧ seizing.claims.length < 16 ∧
      chooseVictims (seizing.entryFor 1 f .emergency 3 .queued) seizing = [(0, y)] ∧
      f.units - (seizing.sector 3).usable .emergency ≤ unitsOf [(0, y)] ∧ y.tenant = 0 := by
  refine ⟨by decide +kernel, books_of (es := []) (cs := []) rfl rfl rfl
    (linksOf_full (linksOf_mod (fun _ => ⟨rfl, rfl⟩) (linksOf_congr (s := up) (by simp [full, State.setSession]) up_links))) (by decide)
    (all_one seizing_one (fun n m => by cases m)), by decide +kernel, by decide, by decide +kernel, by decide, ?_, by decide +kernel,
    rfl⟩
  unfold chooseVictims; rw [candidates_one seizing_one]; decide +kernel

/-- A window of 50 that began 500 ms ago, with the largest weight. -/
def closing : State :=
  ((up.modMeter 3 (fun m => { m with state := .counting 4500, count := 4095 })).modSector 3 (fun p =>
    { p with effective := { p.effective with weight := 16, adaptive := true }, pending := { p.pending with capacity := 4 } }))

theorem meets_WindowEndFigures :
    closing.resetLow = false ∧ (closing.meter 3).state = .counting 4500 ∧
      4500 + (closing.meter 3).length * 10 ≤ closing.timeBase ∧ (closing.sector 3).effective.weight ≤ 16 ∧
      Cls.bulk ≠ .emergency := by decide +kernel

/-- A capacity cut with nobody waiting. -/
theorem meets_WindowEndAppliesAndPublishes :
    Ready closing ∧ BooksInv closing ∧ (closing.meter 3).state = .counting 4500 ∧
      4500 + (closing.meter 3).length * 10 ≤ closing.timeBase ∧
      (∀ e ∈ closing.waitList, e.sector = 3 → e ∈ closing.waitList.filter (refusedBy 3 closing)) ∧
      closing.claims.filter (fun k => k.sector = 3) = [] ∧
      (∀ l, (closing.link l).state = .attached → Roomy l 1 closing) := by
  exact ⟨by decide +kernel, books_of (es := []) (cs := []) rfl rfl rfl (linksOf_congr (s := up) (by simp [closing]) up_links) (by decide) (all_none rfl),
    by decide +kernel⟩

/-- A cut to 3 units, one below the claimant's need of 4, and a closure: the entry is refused and its claim ends. -/
theorem meets_WindowEndAppliesAndPublishes_refused :
    ∀ capacity ∈ [3, 0],
      let s := ((claimed 1 4).modMeter 3 (fun m => { m with state := .counting 4500 })).modSector 3 (fun p =>
        { p with pending := { p.pending with capacity := capacity } })
      let refused := s.waitList.filter (refusedBy 3 s)
      Ready s ∧ BooksInv s ∧ (s.meter 3).state = .counting 4500 ∧ 4500 + (s.meter 3).length * 10 ≤ s.timeBase ∧
        refused = [claimant 1 4] ∧ (∀ e ∈ s.waitList, e.sector = 3 → e ∈ refused) ∧
        (∀ e ∈ s.waitList, e.sector ≠ 3 → e.claimPending = false) ∧
        ∀ l, (s.link l).state = .attached → Roomy l (refused.length + 1) s := by
  have books : ∀ capacity, BooksInv (((claimed 1 4).modMeter 3 (fun m => { m with state := .counting 4500 })).modSector 3 (fun p =>
      { p with pending := { p.pending with capacity := capacity } })) :=
    fun _ => claimed_books rfl rfl rfl rfl (linksOf_congr (s := claimed 1 4) (by simp) (claimed_links 1 4))
  simp only [List.forall_mem_cons, List.not_mem_nil, false_implies, implies_true, and_true]
  exact ⟨⟨by decide +kernel, books 3, by decide +kernel⟩, ⟨by decide +kernel, books 0, by decide +kernel⟩⟩

/-- A BULK entry for 8 units of sector 3. -/
def large : WaitEntry := { entry 3 9 .bulk with units := 8 }

/-- These entries in sector 3, whose units 0 and 1 are taken and whose capacity goes from `old` to `new` at the end of a window; tenant 2 holds
64 units there. -/
def resized (es : List WaitEntry) (old new : Nat) : State :=
  ((waiting es up).modSector 3 (fun p => { p with
      effective := { p.effective with capacity := old }
      pending := { p.pending with capacity := new }
      positions := Vector.ofFn (fun u : UnitNo => if u.val < 2 then .held ⟨7, 7⟩ else if u.val < old then .free else .retired)
      holdings := vput p.holdings 2 64 })).modMeter 3 (fun m => { m with state := .counting 4500 })

theorem resized_none (es : List WaitEntry) (old new : Nat) : holdsNone (resized es old new) := by
  unfold resized holdsNone
  rw [State.modMeter_sessions, State.modSector_sessions, (waiting_keeps es up).1]
  rfl

theorem resized_books (old new : Nat) : ∀ es ∈ [four ++ [large], four], BooksInv (resized es old new) := by
  have h : ∀ es, linksOf es (resized es old new) := fun es =>
    linksOf_congr (s := waiting es up) (by simp [resized]) (linksOf_waiting rfl)
  simp only [List.forall_mem_cons, List.not_mem_nil, false_implies, implies_true, and_true]
  exact ⟨books_of (es := four ++ [large]) (cs := []) rfl rfl rfl (h _) (by decide) (all_none (resized_none _ old new)),
    books_of (es := four) (cs := []) rfl rfl rfl (h _) (by decide) (all_none (resized_none _ old new))⟩

/-- A cut from 8 to 7 that refuses the entry for 8 units, and a rise from 4 to 7, each with 5 units FREE after it: the EMERGENCY entry is granted,
the STANDARD one passed over by its cap, the older BULK one granted, and the younger one stops the scan. -/
theorem meets_WindowEndAppliesAndPublishes_served :
    ∀ q ∈ [(four ++ [large], 8, [large]), (four, 4, [])],
      let s := resized q.1 q.2.1 7
      let refused := s.waitList.filter (refusedBy 3 s)
      let p := (s.sector 3).applied
      let granted := grantedInTurn p (fun t => (s.tenantPolicy t).cap) p.freeCount p.holdings.get
        ((waitingFor 3 s).filter (fun e => !refusedBy 3 s e))
      BooksInv s ∧ (Ready s ∧ (s.meter 3).state = .counting 4500 ∧ 4500 + (s.meter 3).length * 10 ≤ s.timeBase ∧
        refused = q.2.2 ∧ (∀ k ∈ s.claims, k.sector ≠ 3) ∧ granted = [entry 3 3 .emergency, entry 1 1 .bulk] ∧
        ([0, 1] : List RecordIndex).length = granted.length ∧
        ∀ l, (s.link l).state = .attached → Roomy l (refused.length + granted.length + 1) s) ∧ LowestRecords [0, 1] s := by
  have low : ∀ es old, LowestRecords [0, 1] (resized es old 7) := fun es old => (lowest_none (session?_none (resized_none es old 7))).2
  simp only [List.forall_mem_cons, List.not_mem_nil, false_implies, implies_true, and_true]
  exact ⟨⟨resized_books 8 7 _ (by simp), by decide +kernel, low _ _⟩, resized_books 4 7 _ (by simp), by decide +kernel, low _ _⟩

/-- `claimed 1 need` at the end of a window; 5 units are FREE. -/
def gathering (need : Nat) : State := (claimed 1 need).modMeter 3 (fun m => { m with state := .counting 4500 })

theorem gathering_one (need : Nat) : holdsOne (gathering need) 0 (victim 1) := rfl

/-- A claim that needs one unit more than is FREE, and one that needs all. -/
theorem meets_WindowEndAppliesAndPublishes_claim :
    ∀ q ∈ [(7, true), (6, false)],
      let s := gathering q.1
      let k := claimOn 1 q.1
      let e := claimant 1 q.1
      let refused := s.waitList.filter (refusedBy 3 s)
      BooksInv s ∧ (Ready s ∧ (s.meter 3).state = .counting 4500 ∧ 4500 + (s.meter 3).length * 10 ≤ s.timeBase ∧
        s.claims = [] ++ k :: [] ∧ k.sector = 3 ∧ k.cls.counted = false ∧ k.earmarked.length < k.need ∧ e ∈ s.waitList ∧
        e.name = k.claimant ∧ e ∉ refused ∧ (∀ d ∈ s.waitList, d.sector = 3 → d.state = .queued → d ∈ refused) ∧
        (∀ l, (s.link l).state = .attached → Roomy l (refused.length + 2) s) ∧
        decide ((s.sector 3).applied.freeCount < k.need - k.earmarked.length) = q.2 ∧ ∀ d ∈ s.waitList, d.claimPending = false) ∧
      LowestRecords [1] s := by
  have books : ∀ n, BooksInv (gathering n) := fun n =>
    books_of (es := [claimant 1 n]) (cs := [claimOn 1 n]) rfl rfl rfl (linksOf_congr (s := claimed 1 n) (by simp [gathering]) (claimed_links 1 n))
      (by simp [WaitEntry.name, claimant, claimOn, entry, Cls.counted])
      (all_one (gathering_one n) (fun n m => by
        cases m
        exact ⟨_, List.mem_singleton_self _, rfl, rfl, by rw [record_one (gathering_one _)]; exact List.mem_singleton_self _⟩))
  simp only [List.forall_mem_cons, List.not_mem_nil, false_implies, implies_true, and_true]
  exact ⟨⟨books 7, by decide +kernel, lowest_one (gathering_one 7)⟩, books 6, by decide +kernel, lowest_one (gathering_one 6)⟩

theorem meets_ActiveAppliesSettings :
    (let s : State := { up with run := .standby }
     Addressed dev s ∧ s.run = .standby ∧ s.waitList = [] ∧ s.claims = []) ∧ Addressed dev up ∧ up.run = .active := by
  decide +kernel

theorem meets_StandbyRefusesWaiting :
    let s := claimed 1 4
    Addressed dev s ∧ s.run = .active ∧ BooksInv s ∧ (∀ e ∈ s.waitList, Roomy e.tenant s.waitList.length s) :=
  ⟨by decide +kernel, rfl, claimed_books rfl rfl rfl rfl (claimed_links 1 4), by decide +kernel⟩

/-- In ACTIVE and in STANDBY; the RUN bit is free. -/
theorem meets_PoolCleared :
    ∀ s ∈ [claimed 1 4, hold (call .bulk (.active none)) { up with run := .standby }],
      Addressed dev s ∧ ∀ l, (s.link l).state = .attached → (s.link l).lock = true := by decide +kernel

/-- Link 0 ABSENT, link 1 PRESENT, link 2 HALTED, and the enables of 0 and 1 cleared. -/
theorem meets_TenantEnableWritten :
    let s := ((up.modLink 0 (fun _ => LinkRec.reset)).modLink 1 (fun r => { r with state := .present })).modLink 2
      (fun _ => { LinkRec.reset with state := .halted, lock := true })
    Addressed dev s ∧ (∀ l : Link, (0x0C : Byte).getLsbD l.val = false → (s.link l).state ≠ .attached) ∧
      (∀ l, (s.link l).state = .halted → (s.link l).outbound = []) := by decide +kernel

/-- The pointer at this register, in a write transaction. -/
def writing (a : Byte) : State := { up with port := { up.port with pointer := a, transaction := some .write } }

/-- Another device address; no transaction in progress; a write of COUNTER-SELECT, of the read-only FFh, and at WINDOW-DATA. -/
theorem meets_Transactions :
    Addressed dev up ∧
    (up.resetLow = false ∧ (Instr.ask).device? = none ∧ (Instr.tenantEnable 0x59 0).device? = some 0x59 ∧
      ¬ ((0x59 : BusAddress) = 0b10110#5 ++ BitVec.ofBool up.port.adr1 ++ BitVec.ofBool up.port.adr0)) ∧
    (up.port.transaction ≠ some .write ∧ up.port.transaction ≠ some .read) ∧
    (∀ a ∈ ([0x07, 0x12, 0xFF] : List Byte), Ready (writing a) ∧ (writing a).port.transaction = some .write) ∧
    (0xFF : Byte) ∉ ([0x00, 0x01, 0x05, 0x06, 0x07, 0x10, 0x11, 0x12] : List Byte) := by decide +kernel

theorem meets_Transactions_row :
    Addressed dev up ∧ exec (.registerPointerWrite dev 0x05) up = .next (after (.registerPointerWrite dev 0x05) up) ∧
      (Instr.eventMaskWrite dev false 1).asWrite = some (dev, 0x05, 1) ∧
      (Instr.counterDataLowRead dev true).asRead = some (dev, 0x08, true) := ⟨by decide +kernel, rfl, rfl, rfl⟩

/-- A read to the part's address and one that goes on, at a listed register, at 14h and at FFh, with a fault held. -/
theorem meets_PlainRegistersRead :
    ∀ a ∈ ([0x00, 0x01, 0x02, 0x05, 0x06, 0x07, 0x09, 0x0A, 0x0B, 0x0C, 0x0E, 0x0F, 0x10, 0x11, 0x14, 0xFF] : List Byte),
      let s : State := { up with port := { up.port with pointer := a, transaction := some .read }, fault := ⟨some ⟨2, 9, .kind⟩, true⟩ }
      Ready s ∧ Addressed dev s ∧ s.port.transaction = some .read ∧
        s.fault.held = some ⟨2, 9, .kind⟩ := by
  decide +kernel

theorem meets_SummaryAndMask : Addressed dev up := by decide +kernel

/-- Counters 0 and 47, and the number 48 that names none; a counter at its largest value; a free record and a held one. -/
theorem meets_CountersAndFaultRead :
    (∀ n ∈ ([0, 47] : List (Fin 48)),
      let s : State := { up with port := { up.port with counterSelect := BitVec.ofNat 8 n.val }, counters := vput up.counters n 65535 }
      Addressed dev s ∧ n.val = s.port.counterSelect.toNat ∧ s.counters.get n ≤ 65535) ∧
    (let s : State := { up with port := { up.port with counterSelect := 48 } }
     Addressed dev s ∧ 48 ≤ s.port.counterSelect.toNat) ∧
    (⟨none, false⟩ : FaultRecord).held = none ∧
    (⟨some ⟨2, 9, .kind⟩, false⟩ : FaultRecord).held = some ⟨2, 9, .kind⟩ := by decide +kernel

theorem meets_EntryWindowDriven :
    Addressed dev up ∧
    (let s : State := { up with port := { up.port with window := { up.port.window with pointer := 31 } } }
     Addressed dev s ∧ s.port.window.pointer < 32) := by decide +kernel

/-- A window in this mode with this selection for both, and this many bytes staged. -/
def window (m : WindowMode) (x : Selection) (staged : List Byte) : State :=
  { up with port := { up.port with window := ⟨m, x, x, staged.length, staged, false, 0⟩ } }

/-- The last byte but one of a Sector entry, read mode, table 7, and the last byte of the last Sector Live entry. -/
theorem meets_EntryWindowDriven_data :
    (∀ s ∈ [window .write ⟨0, 7⟩ (List.replicate 6 1), window .read ⟨0, 0⟩ [], window .write ⟨7, 0⟩ [],
        window .write ⟨5, 7⟩ (List.replicate 17 1)], Addressed dev s ∧ s.port.window.staging.length = s.port.window.pointer) ∧
    6 + 1 < tableFields 0 ∧ tableFields 7 = 0 ∧ tableFields 5 ≤ 17 + 1 := by decide +kernel

theorem meets_SectorEntryCommitted :
    let s := window .write ⟨0, 7⟩ [64, 1, 1, 0, 0, 0, 0]
    Addressed dev s ∧ s.port.window.mode = .write ∧ s.port.window.writeSelect.table = 0 ∧
      s.port.window.writeSelect.entry.val = (7 : Sector).val ∧ s.port.window.pointer = 7 ∧
      s.port.window.staging = [64, 1, 1, 0, 0, 0, 0] := by decide +kernel

/-- The last byte of the last entry of tables 1 to 4. -/
theorem meets_PolicyEntryCommitted :
    ∀ p ∈ ([(⟨1, 3⟩, List.replicate 9 255), (⟨1, 0⟩, List.replicate 9 255), (⟨2, 3⟩, [255]), (⟨3, 31⟩, []),
        (⟨4, 0⟩, List.replicate 6 0)] : List (Selection × List Byte)),
      let s := window .write p.1 p.2
      Addressed dev s ∧ s.port.window.mode = .write ∧ s.port.window.staging = p.2 ∧ s.port.window.pointer = p.2.length ∧
        s.port.window.writeSelect = p.1 := by decide +kernel

/-- A byte before the last and the last of the last Sector Live entry, write mode, and table 6. -/
theorem meets_WindowDataReturned :
    (∀ s ∈ [window .read ⟨5, 7⟩ (List.replicate 16 0), window .read ⟨5, 7⟩ (List.replicate 17 0), window .write ⟨0, 0⟩ [],
        window .read ⟨6, 0⟩ []], Addressed dev s) ∧
    16 + 1 < tableFields 5 ∧ tableFields 5 ≤ 17 + 1 ∧ tableFields 6 = 0 := by decide +kernel

/-- `claimed 1 4` with the victim's units in its tenant's holding. -/
def accounted : State := (claimed 1 4).modSector 3 (fun p => { p with holdings := vput p.holdings 0 2 })

theorem accounted_one : holdsOne accounted 0 (victim 1) := rfl

theorem accounted_books : BooksInv accounted :=
  claimed_books rfl rfl accounted_one rfl (linksOf_congr (s := claimed 1 4) (by simp [accounted]) (claimed_links 1 4))

theorem meets_StepKeepsPool_accounts : BooksInv accounted ∧ AccountsInv accounted := by
  refine ⟨accounted_books, by decide +kernel, all_one accounted_one (by decide +kernel), by decide +kernel, by decide +kernel,
    fun i t => ?_, by decide +kernel⟩
  rw [sum_one accounted_one rfl]
  revert i t
  decide +kernel

/-- A busy part: a session, an entry and a claim with its victim; and the part with nothing but open sectors. -/
theorem meets_invariants :
    FiguresInv (claimed 1 4) ∧ PoolInv (claimed 1 4) ∧ LinkInv up ∧ SizeInv (claimed 1 4) ∧ BooksInv (claimed 1 4) ∧
      VictimInv (claimed 1 4) ∧ RunInv (claimed 1 4) :=
  ⟨by decide +kernel, by decide +kernel, by decide +kernel, by decide +kernel,
    claimed_books rfl rfl rfl rfl (claimed_links 1 4), ⟨all_one rfl (fun _ => by decide), by decide +kernel⟩,
    by decide +kernel⟩

theorem meets_steps : step { claimed 1 4 with pending := [.timeBaseTick] } =
    .next (after .timeBaseTick (claimed 1 4)) := rfl

end Sys2Proof.Tests
end

/-! SUPPORT. An engine event that does nothing but queue one frame on its link leaves `State.serve`, and what `State.serve` leaves
unchanged; with them, LOOK. -/

namespace Sys2Proof.Machine

/-! ### What serving leaves unchanged -/

@[simp] theorem LinkRec.begin_outbound (r : LinkRec) : r.begin.outbound = r.outbound := by
  unfold LinkRec.begin; split <;> rfl

@[simp] theorem LinkRec.begin_tags (r : LinkRec) : r.begin.tags = r.tags := by
  unfold LinkRec.begin; split <;> rfl

@[simp] theorem LinkRec.taken_state (r : LinkRec) (x : Lane) : (r.taken x).state = r.state := by cases x <;> rfl

@[simp] theorem LinkRec.taken_lock (r : LinkRec) (x : Lane) : (r.taken x).lock = r.lock := by cases x <;> rfl

@[simp] theorem LinkRec.taken_outbound (r : LinkRec) (x : Lane) : (r.taken x).outbound = r.outbound := by cases x <;> rfl

@[simp] theorem LinkRec.taken_tags (r : LinkRec) (x : Lane) : (r.taken x).tags = r.tags := by cases x <;> rfl

@[simp] theorem LinkRec.after_outbound (r : LinkRec) (fs : List OutFrame) (n : Nat) :
    (r.after fs n).outbound = r.outbound ++ fs := by
  simp only [LinkRec.after]; split <;> simp

@[simp] theorem LinkRec.after_tags (r : LinkRec) (fs : List OutFrame) (n : Nat) : (r.after fs n).tags = r.tags := by
  simp only [LinkRec.after]; split <;> simp

theorem State.serve_link (s : State) (l : Link) (x : Lane) (f : RxFrame) (fs : List OutFrame) (m : Link) :
    (s.serve l x f fs).link m = if m = l then ((s.link m).taken x).after fs f.slots else s.link m :=
  get_vmod _ _ _ _

/-! ### An event that queues one frame -/

/-- On an ATTACHED link whose lock input is high a queued frame is the one condition left for an idle link to begin (R136). -/
theorem LinkRec.after_eq_begin {r : LinkRec} {fs : List OutFrame} (n : Nat) (ha : r.state = .attached) (hl : r.lock = true)
    (hf : fs ≠ []) :
    r.after fs n =
      let q := { r with outbound := r.outbound ++ fs, owed := r.owed + n }
      if q.mayBegin then q.begin else q := by
  cases hs : r.sending <;> simp [LinkRec.after, LinkRec.mayBegin, ha, hl, hf, hs]

/-- The state an engine event's body is carried out on: the arbiter has handed the head of the lane over (R132). -/
def State.handedOver (s : State) (l : Link) (x : Lane) : State :=
  { s with work := EventWork.none, arbiter := s.arbiter.served l x }

@[simp] theorem State.handedOver_link (s : State) (l : Link) (x : Lane) (m : Link) : (s.handedOver l x).link m = s.link m := rfl

/-- The end of an engine event whose body queued one frame on its link (R128, R132, R136). -/
theorem finishEvent_queueFrame {l : Link} {x : Lane} {f : RxFrame} {s : State} (g : OutFrame) (hq : Quiet s)
    (hc : arbiterChoice s = some (l, x, f)) (hl : (s.link l).lock = true) :
    finishEvent (finishFrame l x f (queueFrame l g (s.handedOver l x))) = s.serve l x f [g] := by
  obtain ⟨ha, hroom, -⟩ := arbiterChoice_spec hc
  rw [queueFrame_room (by simpa using ha) (by rw [State.handedOver_link]; omega),
    finishFrame_finishEvent (by simpa using ha) (by simp) rfl
      (fun m hm => by rw [State.modLink_link_ne _ hm]; exact hq m)]
  simp only [State.modLink, vmod_vmod, State.serve, State.handedOver]
  congr 1
  · apply vmod_congr
    have hend := LinkRec.after_eq_begin (r := (s.link l).taken x) f.slots (by simpa using ha) (by simpa using hl)
      (List.cons_ne_nil g [])
    cases x <;> exact hend.symm
  · cases x <;> rfl

/-- An engine event whose body queues one frame on its link leaves `State.serve`. -/
theorem engineEvent_serve {k : FrameKind} {body : Link → RxFrame → State → State} {l : Link} {x : Lane} {f : RxFrame}
    {s : State} {g : OutFrame} (ht : EngineTurn k l x f s)
    (hb : body l f (s.handedOver l x) = queueFrame l g (s.handedOver l x)) :
    engineEvent k body s = .next (s.serve l x f [g]) := by
  obtain ⟨⟨hr, hq⟩, hc, hk, hlen, hl⟩ := ht
  rw [State.handedOver] at hb
  rw [engineEvent_turn hr hc hk hlen, hb]
  exact congrArg _ (finishEvent_queueFrame g hq hc hl)

/-! ### LOOK -/

theorem exec_look (s : State) : exec .look s = engineEvent .look carryLook s := rfl

theorem carryLook_sector {l : Link} {f : RxFrame} {s : State} {sec : Sector} (h : sec.val = f.sectorField.toNat) :
    carryLook l f s = queueFrame l (.replyLook f.tag f.cls sec (s.sector sec).effective.capacity (figures sec s)) s := by
  have hlt : f.sectorField.toNat < 8 := h ▸ sec.isLt
  obtain rfl : sec = ⟨f.sectorField.toNat, hlt⟩ := Fin.ext h
  exact dif_pos hlt

theorem carryLook_invalid {l : Link} {f : RxFrame} {s : State} (h : 8 ≤ f.sectorField.toNat) :
    carryLook l f s = queueFrame l (.reply f.tag f.cls .refusedInvalid) s :=
  dif_neg (Nat.not_lt.mpr h)

/-- Settles O34: a LOOK does nothing but queue its one answer, and serving leaves all but the link, the arbiter and the event's work. -/
theorem lookAnswered : Obligations.LookAnswered := by
  intro l x f s ht answers
  have served : ∀ g, exec .look s = .next (s.serve l x f [g]) → answers g := fun g h =>
    ⟨_, h, by simp [State.serve_link], by simp [State.serve_link], fun m hm => by simp [State.serve_link, hm], rfl⟩
  constructor
  · intro sec hsec
    exact served _ (exec_look s ▸ engineEvent_serve ht (carryLook_sector hsec))
  · intro hsec
    exact served _ (exec_look s ▸ engineEvent_serve ht (carryLook_invalid hsec))

end Sys2Proof.Machine

/-! SUPPORT. An engine event that rewrites one session record and queues one frame on its link, and the record a frame's handle
names; with them, TAKEN. -/

namespace Sys2Proof.Machine

/-! ### Rewriting a record -/

@[simp] theorem State.setSession_record_self (s : State) (i : RecordIndex) (y : Session) :
    (s.setSession i y).record i = ⟨(s.record i).generation, some y⟩ :=
  State.modRecord_record_self s i _

theorem State.setSession_record_ne (s : State) {i j : RecordIndex} (h : j ≠ i) (y : Session) :
    (s.setSession i y).record j = s.record j :=
  get_vmod_ne _ h _

@[simp] theorem State.setSession_link (s : State) (i : RecordIndex) (y : Session) (l : Link) :
    (s.setSession i y).link l = s.link l := rfl

@[simp] theorem State.serve_record (s : State) (l : Link) (x : Lane) (f : RxFrame) (fs : List OutFrame) (i : RecordIndex) :
    (s.serve l x f fs).record i = s.record i := rfl

theorem State.modRecord_congr {s : State} {i : RecordIndex} {f g : Record → Record} (h : f (s.record i) = g (s.record i)) :
    s.modRecord i f = s.modRecord i g :=
  congrArg (fun v => { s with sessions := v }) (vmod_congr s.sessions i h)

/-- Giving a record the session it already has changes nothing. -/
theorem State.setSession_self {s : State} {i : RecordIndex} {y : Session} (h : s.session? i = some y) :
    s.setSession i y = s := by
  have same : (⟨(s.record i).generation, some y⟩ : Record) = s.record i := h ▸ rfl
  exact congrArg (fun v => { s with sessions := v }) (vmod_id s.sessions i (f := fun r => ⟨r.generation, some y⟩) same)

theorem setSessionState_eq {s : State} {i : RecordIndex} {y : Session} (h : s.session? i = some y) (z : SessionState) :
    setSessionState i z s = s.setSession i { y with state := z } := by
  have hy : (s.record i).session = some y := h
  exact State.modRecord_congr (by simp [hy])

/-- An engine event whose body gives one record a session and queues one frame on its link leaves `State.serve` with that record
rewritten: neither the arbiter's choice nor a link looks at a record. -/
theorem engineEvent_setSession {k : FrameKind} {body : Link → RxFrame → State → State} {l : Link} {x : Lane} {f : RxFrame}
    {s : State} {g : OutFrame} {i : RecordIndex} {z : Session} (ht : EngineTurn k l x f s)
    (hb : body l f (s.handedOver l x) = queueFrame l g ((s.handedOver l x).setSession i z)) :
    engineEvent k body s = .next ((s.serve l x f [g]).setSession i z) := by
  obtain ⟨⟨hr, hq⟩, hc, hk, hlen, hl⟩ := ht
  rw [State.handedOver] at hb
  rw [engineEvent_turn hr hc hk hlen, hb]
  exact congrArg _ (finishEvent_queueFrame (s := s.setSession i z) g hq hc hl)

/-! ### The record a handle names -/

theorem matchHandle_names {l : Link} {f : RxFrame} {i : RecordIndex} {y : Session} {s : State} (h : Names l f i y s) :
    matchHandle l f s = some (i, y) := by
  obtain ⟨⟨hi, hg, y', hy', ht⟩, hy⟩ := h
  obtain rfl : y' = y := Option.some.inj (hy'.symm.trans hy)
  have hlt : f.recordIndex.toNat < 512 := hi ▸ i.isLt
  obtain rfl : i = ⟨f.recordIndex.toNat, hlt⟩ := Fin.ext hi.symm
  unfold matchHandle
  rw [dif_pos hlt]
  simp [hy, hg, ht]

theorem onSession_names {body : RecordIndex → Session → State → State} {l : Link} {f : RxFrame} {i : RecordIndex} {y : Session}
    {s : State} (h : Names l f i y s) : onSession body l f s = body i y s := by
  unfold onSession; rw [matchHandle_names h]

/-! ### TAKEN -/

theorem exec_taken (s : State) : exec .taken s = engineEvent .taken carryTaken s := rfl

theorem carryTaken_offered {l : Link} {f : RxFrame} {i : RecordIndex} {y : Session} {s : State} {d : Nat} (h : Names l f i y s)
    (hd : y.state = .offered d) :
    carryTaken l f s = replyHandle l f .accepted (s.setSession i { y with state := .active (holdDeadline y.cls s) }) := by
  unfold carryTaken
  rw [onSession_names h, hd, ← setSessionState_eq h.2]

theorem carryTaken_active {l : Link} {f : RxFrame} {i : RecordIndex} {y : Session} {s : State} {d : Option Nat}
    (h : Names l f i y s) (hd : y.state = .active d) : carryTaken l f s = replyHandle l f .wrongState s := by
  unfold carryTaken
  rw [onSession_names h, hd]

theorem carryTaken_reclaiming {l : Link} {f : RxFrame} {i : RecordIndex} {y : Session} {s : State} {d : Nat}
    {k : Option RequestName} (h : Names l f i y s) (hd : y.state = .reclaiming d k) :
    carryTaken l f s = replyHandle l f .wrongState s := by
  unfold carryTaken
  rw [onSession_names h, hd]

/-- Settles O24: TAKEN gives the record named one session and queues its one answer; on a session that is not OFFERED the session
given is the one it has. -/
theorem takenActivates : Obligations.TakenActivates := by
  intro l x f i y s ht hn answers
  have hn' : Names l f i y (s.handedOver l x) := hn
  have leaves : ∀ o z, carryTaken l f (s.handedOver l x) = replyHandle l f o ((s.handedOver l x).setSession i z) →
      answers o z := fun o z h =>
    ⟨_, exec_taken s ▸ engineEvent_setSession ht h, by simp, fun j hj => by simp [State.setSession_record_ne _ hj],
      by simp [State.serve_link], by simp [State.serve_link], fun m hm => by simp [State.serve_link, hm], rfl⟩
  have unchanged : carryTaken l f (s.handedOver l x) = replyHandle l f .wrongState (s.handedOver l x) →
      answers .wrongState y := fun h => leaves _ _ (by rw [h, State.setSession_self hn'.2])
  refine ⟨fun d hd => ?offered, fun d hd => ?active, fun d k hd => ?reclaiming⟩
  case offered => exact leaves _ _ (carryTaken_offered hn' hd)
  case active => exact unchanged (carryTaken_active hn' hd)
  case reclaiming => exact unchanged (carryTaken_reclaiming hn' hd)

end Sys2Proof.Machine

/-! SUPPORT. A raised mark stands through whatever follows in its event, an application of settings, and the figures of a closing
window; with them, WINDOW_END. -/

namespace Sys2Proof.Machine

/-! ### Marks only rise within an event -/

/-- From `s` to `t` no mark was cleared: the operations of an event only set marks (R167); reads of EVENT-SUMMARY clear them (R168). -/
structure MarksStand (s t : State) : Prop where
  stands : ∀ i, s.marks.getLsbD i = true → t.marks.getLsbD i = true

theorem MarksStand.of_eq {s t : State} (h : t.marks = s.marks) : MarksStand s t := ⟨fun _ hi => h ▸ hi⟩

theorem MarksStand.trans {s t u : State} (h : MarksStand s t) (k : MarksStand t u) : MarksStand s u :=
  ⟨fun i hi => k.stands i (h.stands i hi)⟩

/-- A step before that leaves the marks as they are. -/
theorem MarksStand.from_eq {s t u : State} (h : MarksStand t u) (e : t.marks = s.marks) : MarksStand s u :=
  (MarksStand.of_eq e).trans h

/-- A step after that leaves the marks as they are. -/
theorem MarksStand.to_eq {s t u : State} (h : MarksStand s t) (e : u.marks = t.marks) : MarksStand s u :=
  h.trans (.of_eq e)

theorem MarksStand.foldl {α : Type} (f : State → α → State) (h : ∀ s a, MarksStand s (f s a)) (as : List α) (s : State) :
    MarksStand s (as.foldl f s) := by
  induction as generalizing s with
  | nil => exact .of_eq rfl
  | cons a as ih => exact (h s a).trans (ih _)

theorem marksStand_raise (e : Event) (s : State) : MarksStand s (raise e s) :=
  ⟨fun i hi => by simp [raise, hi]⟩

theorem raise_meter_mark (s : State) : (raise .meter s).marks.getLsbD 8 = true := by
  simp [raise, Event.flag, Event.bit]

/-! #### Frames -/

theorem marksStand_changeLinkState (l : Link) (x : LinkState) (s : State) : MarksStand s (changeLinkState l x s) := by
  unfold changeLinkState; split
  · exact .of_eq rfl
  · exact (marksStand_raise _ _).from_eq (by simp)

theorem marksStand_stall (l : Link) (s : State) : MarksStand s (stall l s) :=
  ((marksStand_changeLinkState l .halted s).trans ((marksStand_raise .stall _).from_eq (by simp))).to_eq rfl

theorem marksStand_queueFrame (l : Link) (f : OutFrame) (s : State) : MarksStand s (queueFrame l f s) := by
  unfold queueFrame; split
  · split
    · exact .of_eq rfl
    · exact marksStand_stall _ _
  · exact .of_eq rfl

/-! #### Units, sessions and claims -/

@[simp] theorem raiseHolding_marks (c : Cls) (t : Tenant) (sec : Sector) (n : Nat) (s : State) :
    (raiseHolding c t sec n s).marks = s.marks := by
  unfold raiseHolding; split <;> rfl

@[simp] theorem lowerHolding_marks (c : Cls) (t : Tenant) (sec : Sector) (n : Nat) (s : State) :
    (lowerHolding c t sec n s).marks = s.marks := by
  unfold lowerHolding; split <;> rfl

@[simp] theorem releaseUnits_marks (sec : Sector) (us : List UnitNo) (s : State) : (releaseUnits sec us s).marks = s.marks := by
  unfold releaseUnits; dsimp only; split <;> rfl

theorem marksStand_releaseUnits (sec : Sector) (us : List UnitNo) (s : State) : MarksStand s (releaseUnits sec us s) :=
  .of_eq (releaseUnits_marks _ _ _)

@[simp] theorem transferUnits_marks (k : RequestName) (x : Session) (s : State) : (transferUnits k x s).marks = s.marks := by
  unfold transferUnits; split
  · exact releaseUnits_marks _ _ _
  · exact releaseUnits_marks _ _ _

theorem marksStand_dropClaim (c : Claim) (s : State) : MarksStand s (dropClaim c s) :=
  (MarksStand.foldl (fun s h => dropReference c.claimant h s) (fun _ _ => .of_eq rfl) c.victims s).trans (.of_eq rfl)

theorem marksStand_endClaims (ks : List RequestName) (s : State) : MarksStand s (endClaims ks s) :=
  (MarksStand.foldl _ (fun s c => marksStand_dropClaim c s) _ s).trans
    (.foldl _ (fun s (c : Claim) => marksStand_releaseUnits c.sector c.earmarked s) _ _)

theorem marksStand_grantUnits (k : RequestName) (b : Byte) (c : Cls) (sec : Sector) (us : List UnitNo) (s : State) :
    MarksStand s (grantUnits k b c sec us s) := by
  unfold grantUnits; split
  · exact .of_eq rfl
  · exact (marksStand_queueFrame _ _ _).from_eq (by simp)

theorem marksStand_grantEntry (e : WaitEntry) (us : List UnitNo) (s : State) : MarksStand s (grantEntry e us s) :=
  (marksStand_grantUnits e.name e.cls.byte e.cls e.sector us s).to_eq (by simp [grantEntry])

theorem marksStand_completeClaim (c : Claim) (s : State) : MarksStand s (completeClaim c s) :=
  (marksStand_grantUnits c.claimant c.cls.byte c.cls c.sector c.earmarked s).trans
    ((marksStand_dropClaim _ _).from_eq (by simp))

theorem marksStand_completeIfFull (k : RequestName) (s : State) : MarksStand s (completeIfFull k s) := by
  unfold completeIfFull; split
  · exact .of_eq rfl
  · split
    · exact marksStand_completeClaim _ _
    · exact .of_eq rfl

theorem marksStand_freeSession (i : RecordIndex) (s : State) : MarksStand s (freeSession i s) := by
  unfold freeSession; split
  · exact .of_eq rfl
  · dsimp only; split
    · exact .of_eq (by simp)
    · exact (marksStand_completeIfFull _ _).from_eq (by simp)

theorem marksStand_seize (k : RequestName) (v : RecordIndex × Session) (s : State) : MarksStand s (seize k v s) :=
  .of_eq rfl

theorem marksStand_makeClaim (e : WaitEntry) (vs : List (RecordIndex × Session)) (s : State) :
    MarksStand s (makeClaim e vs s) := by
  unfold makeClaim; dsimp only
  refine MarksStand.trans ?_ (.foldl _ (fun s v => marksStand_queueFrame _ _ s) _ _)
  exact (MarksStand.foldl _ (fun s v => marksStand_seize _ v s) _ _).from_eq rfl

theorem marksStand_claimAttempt (e : WaitEntry) (s : State) : MarksStand s (claimAttempt e s) := by
  unfold claimAttempt; split
  · exact (marksStand_raise _ _).from_eq (by simp)
  · dsimp only; split
    · exact (marksStand_makeClaim _ _ _).from_eq (by simp)
    · exact .of_eq (by simp)

/-! #### Service, offers and the end of the event -/

theorem marksStand_serveClaim (k : RequestName) (s : State) : MarksStand s (serveClaim k s) := by
  unfold serveClaim; dsimp only; split
  · exact .of_eq rfl
  · exact (marksStand_completeIfFull _ _).from_eq rfl

theorem marksStand_scan (es : List WaitEntry) (s : State) : MarksStand s (scan es s) := by
  induction es generalizing s with
  | nil => exact .of_eq rfl
  | cons e es ih =>
    unfold scan; split
    · split
      · exact (marksStand_grantEntry _ _ _).trans (ih _)
      · exact ih _
    · exact .of_eq rfl

theorem marksStand_serviceRun (sec : Sector) (s : State) : MarksStand s (serviceRun sec s) :=
  (MarksStand.foldl _ (fun s k => marksStand_serveClaim k s) _ s).trans (marksStand_scan _ _)

theorem marksStand_offerTo (es : List WaitEntry) (s : State) : MarksStand s (offerTo es s) := by
  induction es generalizing s with
  | nil => exact .of_eq rfl
  | cons e es ih =>
    unfold offerTo; dsimp only
    split
    · exact (ih _).from_eq (by simp)
    · split
      · exact (marksStand_claimAttempt _ _).from_eq (by simp)
      · exact ((marksStand_claimAttempt _ _).trans (ih _)).from_eq (by simp)

theorem marksStand_offerSlots (n : Nat) (s : State) : MarksStand s (offerSlots n s) := by
  induction n generalizing s with
  | zero => exact .of_eq rfl
  | succ n ih => exact (marksStand_offerTo _ _).trans (ih _)

theorem marksStand_settle (s : State) : MarksStand s (settle s) := by
  unfold settle; dsimp only
  refine MarksStand.trans ?_ (marksStand_offerSlots _ _)
  refine (MarksStand.foldl _ (fun t sec => ?_) _ s).to_eq rfl
  split
  · exact marksStand_serviceRun _ _
  · exact .of_eq rfl

theorem marksStand_releaseSequence (l : Link) (b : Bool) (s : State) : MarksStand s (releaseSequence l b s) := by
  unfold releaseSequence; dsimp only
  refine MarksStand.to_eq ?_ (State.modLink_marks _ _ _)
  refine MarksStand.trans ?_ (marksStand_settle _)
  refine MarksStand.to_eq ?_ (State.modLink_marks _ _ _)
  refine MarksStand.trans ?_ (.foldl _ (fun s i => marksStand_freeSession i s) _ _)
  refine MarksStand.trans ?_ (.foldl _ (fun s i => marksStand_freeSession i s) _ _)
  exact (marksStand_endClaims _ _).from_eq rfl

theorem marksStand_drainStalls (n : Nat) (s : State) : MarksStand s (drainStalls n s) := by
  induction n generalizing s with
  | zero => exact .of_eq rfl
  | succ n ih =>
    unfold drainStalls; split
    · exact .of_eq rfl
    · exact ((marksStand_releaseSequence _ _ _).trans (ih _)).from_eq rfl

theorem marksStand_finishEvent (s : State) : MarksStand s (finishEvent s) :=
  (marksStand_drainStalls 4 s).to_eq rfl

/-! ### What an application of settings and a publication keep -/

theorem Keeps.ite {s t u : State} {p : Prop} [Decidable p] (ht : Keeps s t) (hu : Keeps s u) :
    Keeps s (if p then t else u) := by
  split
  · exact ht
  · exact hu

theorem keeps_refuseEntries (sec : Sector) (p : WaitEntry → Bool) (o : ReplyOutcome) (s : State) :
    Keeps s (refuseEntries sec p o s) :=
  (Keeps.foldl _ (fun s (e : WaitEntry) => (keeps_removeEntry e.name s).trans (keeps_refuseEntry o e _)) _ s).trans
    (keeps_endClaims _ _)

/-- Once the sector's pending copy is its effective one, the rest of an application changes neither settings nor meters. -/
theorem keeps_applySettings (sec : Sector) (s : State) : Keeps (s.modSector sec PoolSector.apply) (applySettings sec s) := by
  unfold applySettings; dsimp only
  refine Keeps.trans ?_ (keeps_dueService _ _)
  refine Keeps.trans ?_ (.ite (keeps_raise _ _) .rfl)
  exact .ite (keeps_refuseEntries _ _ _ _) (.ite (keeps_refuseEntries _ _ _ _) .rfl)

theorem keeps_publish (sec : Sector) (s : State) : Keeps s (publish sec s) :=
  Keeps.foldl _ (fun s l => keeps_queueFraction l sec _ s) _ s

/-! ### The figures of a window -/

/-- A weight of at most 16 never takes the smoothed rate below 0, so the figure is R105's without saturation. -/
theorem smooth_eq {weight : Nat} (hw : weight ≤ 16) (sample old : Nat) :
    (smooth sample old weight : Int) = old + Int.tdiv ((16 * sample - old) * weight) 16 := by
  refine Int.toNat_of_nonneg ?_
  rcases le_or_gt (old : Int) (16 * sample) with hle | hlt
  · have rises : 0 ≤ Int.tdiv ((16 * sample - old) * weight) 16 := Int.tdiv_nonneg (by positivity) (by decide)
    omega
  · have falls : ((old : Int) - 16 * sample) * weight ≤ old * 16 := by gcongr <;> omega
    have quotient : Int.tdiv ((16 * sample - old) * weight) 16 = -(((old : Int) - 16 * sample) * weight / 16) := by
      rw [← Int.tdiv_eq_ediv_of_nonneg (by positivity), ← Int.neg_tdiv, ← neg_mul, neg_sub]
    omega

theorem fractionsOf_emergency (s : State) (ratio : Nat) : (fractionsOf s ratio).get 0 = 256 := rfl

theorem fractionsOf_get {c : Cls} (h : c ≠ .emergency) (s : State) (ratio : Nat) :
    (fractionsOf s ratio).get c.index =
      if ratio ≤ (s.classPolicy c).onset then 256
      else max (s.classPolicy c).floor (256 * (s.classPolicy c).onset / ratio) := by
  cases c with
  | emergency => exact absurd rfl h
  | responder => rfl
  | standard => rfl
  | bulk => rfl

theorem Meter.windowEnd?_counting {m : Meter} {start : Nat} (h : m.state = .counting start) :
    m.windowEnd? = some (start + m.length * 10) := by
  unfold Meter.windowEnd?; rw [h]

/-! ### WINDOW_END -/

/-- Stages 1 to 4: the figures of the closing window, with the settings in force during it. -/
def windowClosed (sec : Sector) (s : State) : State :=
  s.modMeter sec (fun m => m.close (s.sector sec).effective (fractionsOf s))

/-- The window-end event up to the restart of the meter: applied, served, published and METER raised (R103). -/
def windowPublished (sec : Sector) (s : State) : State :=
  raise .meter (publish sec (settle (applySettings sec (windowClosed sec s))))

/-- The sector's meter after its window has ended: the closed window's figures, and the next window begun with the length of
stage 5, whose configured length is the one just applied. -/
def meterAfterWindow (sec : Sector) (start : Nat) (s : State) : Meter :=
  let m := s.meter sec
  let p := (s.sector sec).effective
  (m.close p (fractionsOf s)).restart (start + m.length * 10)
    (nextLength (s.sector sec).pending.window p.adaptive (rateSample m.count m.length) p.target m.length)

theorem windowEnds_counting {sec : Sector} {start : Nat} {s : State} (h : (s.meter sec).state = .counting start) :
    windowEnds sec s = (windowPublished sec s).modMeter sec (fun x => x.restart (start + (s.meter sec).length * 10)
      (nextLength ((windowPublished sec s).sector sec).effective.window (s.sector sec).effective.adaptive
        (rateSample (s.meter sec).count (s.meter sec).length) (s.sector sec).effective.target (s.meter sec).length)) := by
  unfold windowEnds windowPublished windowClosed; dsimp only
  rw [Meter.windowEnd?_counting h]

/-- With the figures closed and the sector's pending copy effective, the rest of the work up to the restart keeps both. -/
theorem keeps_windowPublished (sec : Sector) (s : State) :
    Keeps ((windowClosed sec s).modSector sec PoolSector.apply) (windowPublished sec s) :=
  ((keeps_applySettings sec _).trans (keeps_settle _)).trans ((keeps_publish sec _).trans (keeps_raise _ _))

theorem windowPublished_effective (sec : Sector) (s : State) :
    ((windowPublished sec s).sector sec).effective = (s.sector sec).pending := by
  rw [(keeps_windowPublished sec s).effective, State.modSector_sector_self]
  rfl

theorem windowPublished_meter (sec i : Sector) (s : State) :
    (windowPublished sec s).meter i =
      if i = sec then (s.meter i).close (s.sector sec).effective (fractionsOf s) else s.meter i := by
  rw [(keeps_windowPublished sec s).meter, State.modSector_meter, windowClosed, State.modMeter_meter]

/-- What the event's own work leaves of the meters, the sector's settings and the METER mark. -/
theorem windowEnds_figures {sec : Sector} {start : Nat} {s : State} (h : (s.meter sec).state = .counting start) :
    let u := windowEnds sec s
    u.meter sec = meterAfterWindow sec start s ∧ (∀ i, i ≠ sec → u.meter i = s.meter i) ∧
      (u.sector sec).effective = (s.sector sec).pending ∧ u.marks.getLsbD 8 = true := by
  dsimp only
  rw [windowEnds_counting h]
  refine ⟨?_, fun i hi => ?_, ?_, ?_⟩
  · rw [State.modMeter_meter_self, windowPublished_effective, windowPublished_meter, if_pos rfl, meterAfterWindow]
  · rw [State.modMeter_meter, if_neg hi, windowPublished_meter, if_neg hi]
  · rw [State.modMeter_sector, windowPublished_effective]
  · rw [State.modMeter_marks]
    exact raise_meter_mark _

/-- The rest of the event changes none of it: its release sequences keep meters and settings and clear no mark. -/
theorem runEvent_windowEnds {sec : Sector} {start : Nat} {s : State} (h : (s.meter sec).state = .counting start) :
    let t := runEvent (windowEnds sec) s
    t.meter sec = meterAfterWindow sec start s ∧ (∀ i, i ≠ sec → t.meter i = s.meter i) ∧
      (t.sector sec).effective = (s.sector sec).pending ∧ t.marks.getLsbD 8 = true := by
  obtain ⟨meter, others, settings, mark⟩ := windowEnds_figures (s := { s with work := EventWork.none }) h
  have ended := keeps_finishEvent (windowEnds sec { s with work := EventWork.none })
  exact ⟨(ended.meter sec).trans meter, fun i hi => (ended.meter i).trans (others i hi), (ended.effective sec).trans settings,
    (marksStand_finishEvent _).stands 8 mark⟩

theorem exec_windowEnd (sec : Sector) (s : State) : exec (.windowEnd sec) s = execWindowEnd sec s := rfl

theorem exec_windowEnd_due {sec : Sector} {start : Nat} {s : State} (hr : s.resetLow = false)
    (h : (s.meter sec).state = .counting start) (hd : start + (s.meter sec).length * 10 ≤ s.timeBase) :
    exec (.windowEnd sec) s = .next (runEvent (windowEnds sec) s) := by
  rw [exec_windowEnd]
  simp [execWindowEnd, eventWhen, Meter.windowEnd?_counting h, hr, hd]

/-- Settles O39: the event leaves the meter `meterAfterWindow`, whose fields are the figures; serving, publishing and the end
of the event change no figure and clear no mark. -/
theorem windowEndFigures : Obligations.WindowEndFigures := by
  intro sec start s hr hc hd hw m p next sample
  obtain ⟨meter, others, settings, mark⟩ := runEvent_windowEnds hc
  refine ⟨_, exec_windowEnd_due hr hc hd, ?_⟩
  rw [meter]
  exact ⟨smooth_eq hw _ _, rfl, fractionsOf_emergency _ _, fun c hc => fractionsOf_get hc _ _, rfl, rfl, others, settings, mark⟩

end Sys2Proof.Machine
